-- ==== Sys2Proof/Word.lean ====
section
/-!
DEFINITION. The word type of the block: every register and every access is one byte (R6, R45).
-/

namespace Sys2Proof

/-- A register, a command, a control byte or one byte of an image (R6, R45). Bit 0 is the least significant bit. -/
abbrev Byte := BitVec 8

end Sys2Proof
end

