-- ==== Sys2Proof/Syntax.lean ====
section
/-!
DEFINITION. The commands: one constructor per row of spec/opcode_table.json (R61). Each carries the bits of the command
byte that the row does not fix. They select nothing (R62), but the whole byte is latched in `cmd` and reaches `IRQ_GATE`, so
none is dropped: `flags` is bits 3:0 of a one-nibble class, `low` is bits 4:0 of a two-nibble class.
-/

namespace Sys2Proof

/-- A command byte, decoded (R60, R61). -/
inductive Instr
  /-- 0x0, R84 -/
  | restore (flags : BitVec 4)
  /-- 0x1, R85 -/
  | seek (flags : BitVec 4)
  /-- 0x2 and 0x3, R86 -/
  | step (low : BitVec 5)
  /-- 0x4 and 0x5, R87 -/
  | stepIn (low : BitVec 5)
  /-- 0x6 and 0x7, R88 -/
  | stepOut (low : BitVec 5)
  /-- 0x8 and 0x9, R101 -/
  | readSector (low : BitVec 5)
  /-- 0xA, R102 (and R103 when `WS_QUIRK_NIBBLE` is 0xA) -/
  | writeSectorA (flags : BitVec 4)
  /-- 0xB, R102 (and R103 when `WS_QUIRK_NIBBLE` is 0xB) -/
  | writeSectorB (flags : BitVec 4)
  /-- 0xC, R104 -/
  | readAddress (flags : BitVec 4)
  /-- 0xD, R120 -/
  | forceInt (flags : BitVec 4)
  /-- 0xE, R122 -/
  | invalid (flags : BitVec 4)
  /-- 0xF, R105 -/
  | writeTrack (flags : BitVec 4)
  deriving DecidableEq, Repr

end Sys2Proof
end

