-- ==== Sys2Proof/Decode.lean ====
section
/-!
DEFINITION. The decoder of a command byte, the encoder, and the opcode table's rows (R60 to R63). "Command register
writes decode the upper nibble into command classes": every byte is a command, and the only bytes a caller can fail to decode
are the missing ones.
-/

namespace Sys2Proof

/-- `v[7:4]`, the command class of a byte (R60). -/
def opOf (v : Byte) : BitVec 4 := v.extractLsb' 4 4

/-- `v[3:0]`, the bits that no class decodes (R62). -/
def flagsOf (v : Byte) : BitVec 4 := v.extractLsb' 0 4

/-- `v[4:0]`, the bits that a two-nibble class does not decode (R62). -/
def lowOf (v : Byte) : BitVec 5 := v.extractLsb' 0 5

/-- The opcode map (R61), by the class `v[7:4]`. Total: 0xE is `INVALID`, a command with an action of its own (R63). -/
def decode (v : Byte) : Instr :=
  match (opOf v).toNat with
  | 0 => .restore (flagsOf v)
  | 1 => .seek (flagsOf v)
  | 2 => .step (lowOf v)
  | 3 => .step (lowOf v)
  | 4 => .stepIn (lowOf v)
  | 5 => .stepIn (lowOf v)
  | 6 => .stepOut (lowOf v)
  | 7 => .stepOut (lowOf v)
  | 8 => .readSector (lowOf v)
  | 9 => .readSector (lowOf v)
  | 10 => .writeSectorA (flagsOf v)
  | 11 => .writeSectorB (flagsOf v)
  | 12 => .readAddress (flagsOf v)
  | 13 => .forceInt (flagsOf v)
  | 14 => .invalid (flagsOf v)
  | _ => .writeTrack (flagsOf v)

/-- The command byte of an instruction: the row's fixed bits above the bits it leaves free (R60, R61). -/
def encode : Instr → Byte
  | .restore flags => 0x0#4 ++ flags
  | .seek flags => 0x1#4 ++ flags
  | .step low => 0b001#3 ++ low
  | .stepIn low => 0b010#3 ++ low
  | .stepOut low => 0b011#3 ++ low
  | .readSector low => 0b100#3 ++ low
  | .writeSectorA flags => 0xA#4 ++ flags
  | .writeSectorB flags => 0xB#4 ++ flags
  | .readAddress flags => 0xC#4 ++ flags
  | .forceInt flags => 0xD#4 ++ flags
  | .invalid flags => 0xE#4 ++ flags
  | .writeTrack flags => 0xF#4 ++ flags

/-- Why no command could be read from a list of bytes. -/
inductive DecodeError
  /-- the list is empty: a command is one byte (R60) -/
  | noByte
  deriving DecidableEq, Repr

/-- A command read from the front of a list of bytes, with the rest: one length, one format, no prefix (R60, R63). -/
def decodeBytes : List Byte → Except DecodeError (Instr × List Byte)
  | [] => .error .noByte
  | v :: rest => .ok (decode v, rest)

/-- The bytes of a command (R60: one). -/
def encodeBytes (i : Instr) : List Byte := [encode i]

/-- A row of the opcode table: the bits it fixes and their value. -/
structure OpcodeRow where
  mask    : Byte
  pattern : Byte
  deriving DecidableEq, Repr

/-- The row of R61's table that an instruction belongs to. -/
def opcodeRow : Instr → OpcodeRow
  | .restore _ => ⟨0xF0#8, 0x00#8⟩
  | .seek _ => ⟨0xF0#8, 0x10#8⟩
  | .step _ => ⟨0xE0#8, 0x20#8⟩
  | .stepIn _ => ⟨0xE0#8, 0x40#8⟩
  | .stepOut _ => ⟨0xE0#8, 0x60#8⟩
  | .readSector _ => ⟨0xE0#8, 0x80#8⟩
  | .writeSectorA _ => ⟨0xF0#8, 0xA0#8⟩
  | .writeSectorB _ => ⟨0xF0#8, 0xB0#8⟩
  | .readAddress _ => ⟨0xF0#8, 0xC0#8⟩
  | .forceInt _ => ⟨0xF0#8, 0xD0#8⟩
  | .invalid _ => ⟨0xF0#8, 0xE0#8⟩
  | .writeTrack _ => ⟨0xF0#8, 0xF0#8⟩

/-- The rows of the opcode table, in its order (R61). -/
def opcodeTable : List OpcodeRow :=
  [⟨0xF0#8, 0x00#8⟩, ⟨0xF0#8, 0x10#8⟩, ⟨0xE0#8, 0x20#8⟩, ⟨0xE0#8, 0x40#8⟩] ++
  [⟨0xE0#8, 0x60#8⟩, ⟨0xE0#8, 0x80#8⟩, ⟨0xF0#8, 0xA0#8⟩, ⟨0xF0#8, 0xB0#8⟩] ++
  [⟨0xF0#8, 0xC0#8⟩, ⟨0xF0#8, 0xD0#8⟩, ⟨0xF0#8, 0xE0#8⟩, ⟨0xF0#8, 0xF0#8⟩]

/-- Whether a byte lies in a row. -/
def OpcodeRow.holds (r : OpcodeRow) (v : Byte) : Bool := v &&& r.mask == r.pattern

/-- The instruction whose bits are `w`, as the opcode table numbers them: a row has 8 bits and the instruction no more. -/
def decodeTableWord (nbits w : Nat) : Option Instr :=
  if nbits = 8 then
    match decodeBytes [BitVec.ofNat 8 w] with
    | .ok (i, []) => some i
    | _ => none
  else none

end Sys2Proof
end

