-- ==== Sys2Proof/Config.lean ====
section
/-!
DEFINITION. What is fixed for a machine and not state (R36): the types the parameters of R5 speak of, the geometry
descriptor of an image (R46), and every parameter that the spec leaves OPEN, as a constant without a body. Nothing can be
proved about the value of such a constant, so a statement that mentions one holds of every board (logs 2, 3, 4, 5, 10).
Machine/Params.lean names the parameters of R5 for the rest of the model; no other file
of the model reads a constant of this file directly.
-/

namespace Sys2Proof

/-- The three board profiles, unnamed in the source (R5 `PROFILE`, D2). -/
inductive Profile
  | p0
  | p1
  | p2
  deriving DecidableEq, Repr, Inhabited

/-- The index of a drive unit: "exactly 2 units" (R5 `NDRIVES`, R22). -/
inductive DriveIx
  | d0
  | d1
  deriving DecidableEq, Repr, Inhabited

/-- The step direction: `inward` is +1, `outward` is -1 (R18, D9). -/
inductive StepDir
  | inward
  | outward
  deriving DecidableEq, Repr, Inhabited

/-- The events that may assert the completion interrupt: the first argument but one of `IRQ_GATE` (R207, R213). -/
inductive Event
  | finished
  | notFound
  | dataCrc
  | headCrc
  | wrProt
  | badCmd
  | forceInt
  deriving DecidableEq, Repr, Inhabited

/-- The side layout of a geometry (R46). -/
inductive Sides
  | single
  | sequential
  | interleaved
  deriving DecidableEq, Repr

/-- The density class of a geometry: `SINGLE_D`, `DOUBLE_D`, `QUAD_D` (R46). -/
inductive Density
  | singleD
  | doubleD
  | quadD
  deriving DecidableEq, Repr

/-- A Geometry Descriptor (R28, R46). Its constraints are `Geometry.wf` of WellFormed.lean. -/
structure Geometry where
  sides        : Sides
  density      : Density
  totalSectors : Nat
  tracks       : Nat
  /-- sectors per track -/
  spt          : Nat
  /-- bytes per sector -/
  secsize      : Nat
  deriving DecidableEq, Repr

/-- The bit index of each status flag: `ST_BUSY` .. `ST_MOTOR` (R5, R64). -/
structure StatusLayout where
  busy   : Nat
  drq    : Nat
  track0 : Nat
  crc    : Nat
  rnf    : Nat
  wprot  : Nat
  motor  : Nat
  deriving DecidableEq, Repr, Inhabited

/-- `ST_BUSY` .. `ST_MOTOR` (R5, R64, D1): open. Read through `Machine.statusLayout`, which makes them pairwise distinct bits
of a byte; the spec's default 0, 1, 2, 3, 4, 6, 7 is not built in (log 5). -/
opaque Config.statusLayout : StatusLayout

/-- `PROFILE` (R5, D2): open. -/
opaque Config.profile : Profile

/-- `CTRL_ADDR_BIT(p) - 2` (R5, R42): open. The bit is neither 0 nor 1, so it is this natural plus 2. -/
opaque Config.ctrlAddrBitLessTwo : Profile → Nat

/-- `CTRL_ADDR_POL(p)` (R5, R42): open. -/
opaque Config.ctrlAddrPol : Profile → Bool

/-- `DRIVE_OF(p, v)` (R5, R67): open. -/
opaque Config.driveOf : Profile → Byte → DriveIx

/-- `SIDE_OF(p, v)`, true for side 1 (R5, R67): open. -/
opaque Config.sideOf : Profile → Byte → Bool

/-- `DENSITY_OF(p, v)`, true for double (R5, R67): open. -/
opaque Config.densityOf : Profile → Byte → Bool

/-- `RESET_OF(p, v)` (R5, R67): open. -/
opaque Config.resetOf : Profile → Byte → Bool

/-- `IRQ_GATE(p, e, ctl, cmd)` (R5, R213): open; the spec's default, true everywhere, is not built in (log 4). -/
opaque Config.irqGate : Profile → Event → Byte → Byte → Bool

/-- `SEEK_TICKS(d, from, to) - 1` (R5, D22): open. The number is at least 1, so it is this natural plus 1. -/
opaque Config.seekTicksLessOne : DriveIx → Nat → Nat → Nat

/-- `STEPDIR_RESET` (R5, R18, U3): open (log 2). -/
opaque Config.stepdirReset : StepDir

/-- Whether `WS_QUIRK_NIBBLE` is 0xB; it is 0xA otherwise (R5, D15): open; the default 0xB is not built in (log 4). -/
opaque Config.wsQuirkIsB : Bool

/-- `FILLER` (R5, D18): open; the default 0x00 is not built in (log 4). -/
opaque Config.filler : Byte

/-- `ADDR_RSVD0` (R5, D19): open. -/
opaque Config.addrRsvd0 : Byte

/-- `ADDR_RSVD1` (R5, D19): open. -/
opaque Config.addrRsvd1 : Byte

/-- `ADDR_RSVD2` (R5, D19): open. -/
opaque Config.addrRsvd2 : Byte

/-- The byte that Read Address reports of an address pointer of 256 or more: the spec states none (R183), a free value (log 23). -/
opaque Config.wideSector : Nat → Byte

/-- `FDC_BASE` (R5, R44, D30): open. No rule of the spec reads it (log 20). -/
opaque Config.fdcBase : Nat

/-- The `any` byte that the `n`-th read of CONTROL returns (R140, U2): a free value (log 10). -/
opaque Config.freeByte : Nat → Byte

end Sys2Proof
end

