-- ==== Sys2Proof/Machine/Params.lean ====
section
/-!
DEFINITION. The implementation parameters of R5, each under one name: the numbers the source states, the
layout of the status byte (R64), and the other open parameters read from Config.
-/

namespace Sys2Proof.Machine

/-- `NDRIVES`: "exactly 2 units" (R5, R22). `DriveIx` has that many values. -/
def nDrives : Nat := 2

/-- `NOTFOUND_TICKS` (R5, D39; log 6). -/
def notFoundTicks : Nat := 500

/-- `BYTE_DIVIDER` (R5, D39; log 6). -/
def byteDivider : Nat := 16

/-- `SPINDOWN_TICKS` (R5, D39; log 6). -/
def spindownTicks : Nat := 45000

/-- The bit indices of a layout, in the order of R64. -/
def flagPositions (l : StatusLayout) : List Nat := [l.busy, l.drq, l.track0, l.crc, l.rnf, l.wprot, l.motor]

/-- What D1 asks of a layout: seven bits of a byte, pairwise distinct. -/
def isLayout (l : StatusLayout) : Bool := (flagPositions l).all (fun n => decide (n < 8)) && decide (flagPositions l).Nodup

/-- The spec's default layout (R64). -/
def defaultLayout : StatusLayout := { busy := 0, drq := 1, track0 := 2, crc := 3, rnf := 4, wprot := 6, motor := 7 }

/-- The layout of the status byte: any layout of D1. An open constant that is none stands for the default, so that every
layout of D1, and nothing else, is a value of this definition (log 5). -/
def statusLayout : StatusLayout := if isLayout Config.statusLayout then Config.statusLayout else defaultLayout

/-- Whether bit `n` of the status byte carries a flag (R64). In the default layout every bit but 5 does. -/
def isFlag (n : Nat) : Bool := (flagPositions statusLayout).contains n

/-- `ST_BUSY` (R64, D1; log 5). -/
def stBusy : Nat := statusLayout.busy

/-- `ST_DRQ` (R64, D1; log 5). -/
def stDrq : Nat := statusLayout.drq

/-- `ST_TRACK0` (R64, D1; log 5). -/
def stTrack0 : Nat := statusLayout.track0

/-- `ST_CRC` (R64, D1; log 5). -/
def stCrc : Nat := statusLayout.crc

/-- `ST_RNF` (R64, D1; log 5). -/
def stRnf : Nat := statusLayout.rnf

/-- `ST_WPROT` (R64, D1; log 5). -/
def stWprot : Nat := statusLayout.wprot

/-- `ST_MOTOR` (R64, D1; log 5). -/
def stMotor : Nat := statusLayout.motor

/-- `PROFILE` (R5, D2). -/
def profile : Profile := Config.profile

/-- `CTRL_ADDR_BIT(p)`, never 0 or 1 (R42). -/
def ctrlAddrBit (p : Profile) : Nat := Config.ctrlAddrBitLessTwo p + 2

/-- `CTRL_ADDR_POL(p)` (R42). -/
def ctrlAddrPol (p : Profile) : Bool := Config.ctrlAddrPol p

/-- `DRIVE_OF(p, v)` (R67). -/
def driveOf (p : Profile) (v : Byte) : DriveIx := Config.driveOf p v

/-- `SIDE_OF(p, v)` (R67). -/
def sideOf (p : Profile) (v : Byte) : Bool := Config.sideOf p v

/-- `DENSITY_OF(p, v)` (R67). -/
def densityOf (p : Profile) (v : Byte) : Bool := Config.densityOf p v

/-- `RESET_OF(p, v)` (R67). -/
def resetOf (p : Profile) (v : Byte) : Bool := Config.resetOf p v

/-- `IRQ_GATE(p, e, ctl, cmd)`, a pure function of these four (R213). -/
def irqGate (p : Profile) (e : Event) (ctl cmd : Byte) : Bool := Config.irqGate p e ctl cmd

/-- `SEEK_TICKS(d, from, to)`, at least 1 (R152, D22). -/
def seekTicks (d : DriveIx) (start target : Nat) : Nat := Config.seekTicksLessOne d start target + 1

/-- `STEPDIR_RESET` (R18, U3; log 2). -/
def stepdirReset : StepDir := Config.stepdirReset

/-- The byte that the `n`-th read of CONTROL returns: any (R140; log 10). -/
def freeByte (n : Nat) : Byte := Config.freeByte n

/-- `WS_QUIRK_NIBBLE`, one of 0xA and 0xB (R103, D15). -/
def wsQuirkNibble : BitVec 4 := if Config.wsQuirkIsB then 0xB#4 else 0xA#4

/-- `FILLER` (R184, D18). -/
def filler : Byte := Config.filler

/-- `ADDR_RSVD0` (R183, D19). -/
def addrRsvd0 : Byte := Config.addrRsvd0

/-- `ADDR_RSVD1` (R183, D19). -/
def addrRsvd1 : Byte := Config.addrRsvd1

/-- `ADDR_RSVD2` (R183, D19). -/
def addrRsvd2 : Byte := Config.addrRsvd2

/-- The byte that Read Address reports of an address pointer of 256 or more: free (R183; DESIGN CHOICE, log 23). -/
def wideSector (n : Nat) : Byte := Config.wideSector n

/-- `FDC_BASE` (R44, D30; no rule reads it, log 20). -/
def fdcBase : Nat := Config.fdcBase

end Sys2Proof.Machine
end

