-- ==== Sys2Proof/Machine/State.lean ====
section
/-!
DEFINITION. The state of the block (R10 to R35), the actions of its three agents (R4), the reasons a step can stop, and the
state after power-on (R240).
-/

namespace Sys2Proof.Machine

/-- The bytes of one image, keyed by offset, in canonical form: offsets strictly rising, no byte equal to what an
unlisted offset reads as (`Memory.wf` of Ops.lean; log 11). -/
abbrev Memory := List Host.Cell

/-- `st[d]`, the operation state of a drive's transfer machine (R30). -/
inductive OpState
  | idle
  | notFound
  | read
  | write
  | addr
  | format
  deriving DecidableEq, Repr

/-- An Image Session (R26 to R33): exists while `bound[d] = IMAGE`. -/
structure Session where
  /-- `img[d]`, R27; its length is `geo.imageLength` (R47) -/
  img   : Memory
  /-- `geo[d]`, R28 -/
  geo   : Geometry
  /-- `swp[d]`, R29 -/
  swp   : Bool
  /-- `st[d]`, R30 -/
  st    : OpState
  /-- `cnt[d]`, R31 -/
  cnt   : Nat
  /-- `stage[d]`, R31 -/
  stage : Nat
  /-- `ttrk[d]`, R31 -/
  ttrk  : Nat
  /-- `tside[d]`, R31 -/
  tside : Nat
  /-- `tsec[d]`, R31 -/
  tsec  : Nat
  /-- `pos[d]`, R32 -/
  pos   : Nat
  /-- `div[d]`, R33 -/
  div   : Nat
  /-- `asec[d]`, R33 -/
  asec  : Nat
  deriving DecidableEq, Repr

/-- `bound[d]`: `EMPTY`, `IMAGE` with its session, or `ALT` (R24, R26). -/
inductive Binding
  | empty
  | image (ses : Session)
  | alt
  deriving DecidableEq, Repr

/-- One drive (R22). -/
structure Drive where
  /-- `wp[d]`, R23 -/
  wp     : Bool
  /-- `curtrk[d]`, R25 -/
  curtrk : Nat
  /-- `bound[d]` and the session, R24, R26 -/
  bound  : Binding
  deriving DecidableEq, Repr

/-- A decoded host access's target (R41, R42): `CHIP(n)` or `CONTROL`. -/
inductive Target
  | chip (n : BitVec 2)
  | control
  deriving DecidableEq, Repr

/-- The four transfer-initiating operations of the dispatch layer (R9, R153 to R156). -/
inductive Transfer
  | readSector
  | writeSector
  | readAddress
  | format
  deriving DecidableEq, Repr

/-- The operands of a transfer call, read once when the command is accepted (R55, R68, R100). -/
structure Request where
  sector : Nat
  track  : Nat
  side   : Bool
  dens   : Bool
  deriving DecidableEq, Repr

/-- A completion callback as an alternate backend may call it (R151, R200 to R206, R217). -/
inductive Callback
  | dataReady (b : Byte)
  | finished
  | notFound
  | dataCrcError
  | headerCrcError
  | writeProtect
  | pull (last : Bool)
  deriving DecidableEq, Repr

/-- One atomic action of an agent (R4, R69): the host's register accesses, the Tick, the environment's moves. -/
inductive Action
  /-- host read (R131 to R140) -/
  | read (t : Target)
  /-- host write (R133 to R139) -/
  | write (t : Target) (v : Byte)
  /-- R230 -/
  | tick
  /-- R160 -/
  | bind (d : DriveIx) (g : Geometry) (bytes : List Byte) (ro : Bool)
  /-- the alternate backend would be loaded into the drive (R22, R24): refused (R151, D31; log 14) -/
  | bindAlt (d : DriveIx)
  /-- R161 -/
  | close (d : DriveIx)
  /-- R163 -/
  | wprot (d : DriveIx) (b : Bool)
  /-- R240 -/
  | reset
  /-- the alternate backend of drive `d` calls back (R151, R217; log 14) -/
  | altCallback (d : DriveIx) (c : Callback)
  deriving DecidableEq, Repr

/-- The state (R36: "the whole of rules R10 to R35"), and three fields of the model's own at its end. -/
structure State where
  /-- R11 -/
  cmd       : Byte
  /-- R12 -/
  trk       : Byte
  /-- R13 -/
  sec       : Byte
  /-- R14 -/
  dat       : Byte
  /-- R15 -/
  sts       : Byte
  /-- R16 -/
  ctl       : Byte
  /-- R17, true for side 1 -/
  side      : Bool
  /-- R17, true for double density -/
  dens      : Bool
  /-- R17 -/
  drv       : DriveIx
  /-- R18 -/
  stepdir   : StepDir
  /-- R19 -/
  written   : Bool
  /-- `motor_on`, R20 -/
  motorOn   : Bool
  /-- R20 -/
  spindown  : Nat
  /-- `irq_done`, R21 -/
  irqDone   : Bool
  /-- `irq_drq`, R21 -/
  irqDrq    : Bool
  /-- drive 0, R22 -/
  drive0    : Drive
  /-- drive 1, R22 -/
  drive1    : Drive
  /-- `nf_count`, R34 -/
  nfCount   : Nat
  /-- `seek_count`, R35 -/
  seekCount : Nat
  /-- the model's own: the actions still to come, the next one first (log 7) -/
  inbox     : List Action
  /-- the model's own: the byte the last host read returned (log 9) -/
  hostRead  : Byte
  /-- the model's own: how many free values were taken so far (log 10) -/
  freeCount : Nat
  deriving DecidableEq, Repr

/-- Why the machine stops with a fault. -/
inductive Fault
  /-- Raised by `readTick`, `writeTick` and `formatTick` for an image offset at or past the image's length, where R48 and
  R49 give no meaning. Safe: no state that meets the invariant of Safety.lean raises it (R47; log 12). -/
  | imageOffset
  deriving DecidableEq, Repr

/-- Why an action is given no meaning. -/
inductive Refusal
  /-- Raised by an arm of `exec` for an instruction without a meaning yet. Safe. -/
  | notModelled (mnemonic : String)
  /-- Raised by `dispatchTransfer` and `dispatchSeek` for a drive bound to the alternate backend, and by `bindAlternate` for
  binding one (R151, R153 to R156, D31, U4; logs 13, 14). Safe. -/
  | altBackend
  /-- Raised by `bindImage` for a geometry that breaks R46 (log 15). Safe. -/
  | badGeometry
  /-- Raised by `bindImage` for an image whose length is not the geometry's (R47, U6; log 15). Safe. -/
  | imageLength
  /-- Raised by `bindImage` and `closeImage` while an operation is in flight on the drive (R162, U14;
  log 15). Unsafe: an environment that did so would reach states the model has not. -/
  | operationInFlight
  /-- Raised by `alternateCallback` for a drive that is not bound to the alternate backend (R151; log 14). Safe. -/
  | noAltBackend
  deriving DecidableEq, Repr

/-- The outcome of an action. -/
abbrev Result := Host.Outcome State Fault Refusal

/-- A drive at emulator startup: empty, not protected, head at 0 (R23 to R25, R240). -/
def Drive.startup : Drive := { wp := false, curtrk := 0, bound := .empty }

/-- Power-on at emulator startup (R240, 10_state.md section 8). `stepdir` holds the open `STEPDIR_RESET` (log 2). -/
def State.reset : State where
  cmd := 0
  trk := 0
  sec := 0
  dat := 0
  sts := 0
  ctl := 0
  side := false
  dens := false
  drv := .d0
  stepdir := stepdirReset
  written := false
  motorOn := false
  spindown := 0
  irqDone := false
  irqDrq := false
  drive0 := Drive.startup
  drive1 := Drive.startup
  nfCount := 0
  seekCount := 0
  inbox := []
  hostRead := 0
  freeCount := 0

end Sys2Proof.Machine
end

