-- ==== Sys2Proof/Machine/Flags.lean ====
section
/-!
DEFINITION. The status byte: its flags (R64), its patterns (R65), the track-0 term (R66), and the levels and modes told by
state (R214, R225).
-/

namespace Sys2Proof.Machine

/-- `bit(n)`, the byte with only bit `n` set (R6). -/
def bit (n : Nat) : Byte := 1#8 <<< n

/-- `v[n] <- 1`. -/
def setBit (v : Byte) (n : Nat) : Byte := v ||| bit n

/-- `v[n] <- 0`. -/
def clearBit (v : Byte) (n : Nat) : Byte := v &&& ~~~(bit n)

/-- `T0()` for a track register value (R66). -/
def trackZero (trk : Byte) : Byte := if trk = 0#8 then bit stTrack0 else 0#8

/-- `PAT_POSITION` (R65). -/
def patPosition (trk : Byte) : Byte := bit stMotor ||| bit stBusy ||| trackZero trk

/-- `PAT_TRANSFER` (R65). -/
def patTransfer : Byte := bit stMotor ||| bit stBusy

/-- `PAT_WRITE` (R65): what `PAT_TRANSFER` becomes when WRITE_SECTOR arms the data request (R102). -/
def patWrite : Byte := setBit patTransfer stDrq

/-- `PAT_IDLE` (R65). -/
def patIdle (trk : Byte) : Byte := bit stMotor ||| trackZero trk

/-- Whether a command byte is of a positioning class, `cmd[7:4] <= 0x7` (R66). -/
def isPositioning (cmd : Byte) : Bool := decide ((opOf cmd).toNat ≤ 7)

/-- `PAT_DONE` (R65). -/
def patDone (cmd trk : Byte) : Byte := if isPositioning cmd then bit stMotor ||| trackZero trk else bit stMotor

/-- `PAT_NOTFOUND` (R65). -/
def patNotFound : Byte := bit stRnf

/-- `PAT_DATACRC` (R65). -/
def patDataCrc : Byte := bit stCrc

/-- `PAT_HEADCRC` (R65). -/
def patHeadCrc : Byte := bit stCrc ||| bit stRnf

/-- `PAT_WPROT` (R65). -/
def patWrProt : Byte := bit stWprot

/-- `sts[ST_BUSY] = 1`: the controller is busy (R225). A byte of zeros has no flag set, which is tested first: so the machine
can be evaluated from reset whatever the layout (`busy_eq` in Laws/Flags.lean drops the test). -/
def State.busy (s : State) : Bool := decide (s.sts ≠ 0#8) && s.sts.getLsbD stBusy

/-- `irq_line`, the level of the interrupt line (R214). -/
def State.irqLine (s : State) : Bool := s.irqDone || s.irqDrq

end Sys2Proof.Machine
end

