-- ==== Sys2Proof/WellFormed.lean ====
section
/-!
DEFINITION. Well-formedness. A command has nothing to check: its operands are bit vectors of exactly the bits that its row
leaves free, and the spec gives every value of them the same meaning (R62, R63), so no ill-formed `Instr` can be written.
What a model must check is a geometry (R46) and an image against it (R47); BIND refuses what fails here.
-/

namespace Sys2Proof

/-- Every command is well formed (R62, R63). One arm per constructor, so that a new one must be thought of. -/
def Instr.wf : Instr → Bool
  | .restore _ => true
  | .seek _ => true
  | .step _ => true
  | .stepIn _ => true
  | .stepOut _ => true
  | .readSector _ => true
  | .writeSectorA _ => true
  | .writeSectorB _ => true
  | .readAddress _ => true
  | .forceInt _ => true
  | .invalid _ => true
  | .writeTrack _ => true

/-- The number of sides of a layout: 1 for `SINGLE` and 2 otherwise (R46). -/
def Sides.count : Sides → Nat
  | .single => 1
  | .sequential => 2
  | .interleaved => 2

/-- `bytes_per_track = spt * secsize` (R46). -/
def Geometry.bytesPerTrack (g : Geometry) : Nat := g.spt * g.secsize

/-- The length a well-formed image of this geometry has (R47). -/
def Geometry.imageLength (g : Geometry) : Nat := g.totalSectors * g.secsize

/-- The constraints of R46: positive numbers, and `total_sectors = tracks * spt * nsides`. -/
def Geometry.wf (g : Geometry) : Bool :=
  decide (0 < g.tracks) && decide (0 < g.spt) && decide (0 < g.secsize) && decide (0 < g.totalSectors)
    && decide (g.totalSectors = g.tracks * g.spt * g.sides.count)

/-- A bound image is well formed when its length is the geometry's (R47). -/
def Geometry.fits (g : Geometry) (bytes : List Byte) : Bool := decide (bytes.length = g.imageLength)

end Sys2Proof
end

