-- ==== Sys2Proof/Machine/Operands.lean ====
section
/-!
DEFINITION. Operands. No command carries one: each comes from a fixed register (R68). Here are the reading of a transfer's
operands, the arithmetic of the track register (R83), the offset of a sector (R50), the guards of a request (R172), and the
decoding of a host address (R42).
-/

namespace Sys2Proof.Machine

/-- The operands of a transfer call: what `sec`, `trk`, `side`, `dens` hold when the command is accepted (R68, R100). -/
def requestOf (s : State) : Request :=
  { sector := s.sec.toNat, track := s.trk.toNat, side := s.side, dens := s.dens }

/-- `(trk + direction) mod 256` (R83, R86). -/
def stepTrack (dir : StepDir) (trk : Byte) : Byte :=
  match dir with
  | .inward => trk + 1#8
  | .outward => trk - 1#8

/-- The offset of the start of track `t` on side `h` (R50). Side 1 of single-sided media never reaches the rule (guard
(g) of R172); it is given the sequential formula's value, which nothing reads (log 22). -/
def trackBase (g : Geometry) (t : Nat) (h : Bool) : Nat :=
  match g.sides, h with
  | .single, false => t * g.bytesPerTrack
  | .sequential, false => t * g.bytesPerTrack
  | .interleaved, false => 2 * t * g.bytesPerTrack
  | .single, true => (t + g.tracks) * g.bytesPerTrack
  | .sequential, true => (t + g.tracks) * g.bytesPerTrack
  | .interleaved, true => (2 * t + 1) * g.bytesPerTrack

/-- `offset(g, t, h, s)` (R50). -/
def sectorOffset (g : Geometry) (t : Nat) (h : Bool) (sector : Nat) : Nat := trackBase g t h + sector * g.secsize

/-- Guard (d): the density flag against the density class (R172, D25). -/
def densityMatches (dens : Bool) (c : Density) : Bool :=
  match c with
  | .singleD => !dens
  | .doubleD => dens
  | .quadD => dens

/-- Whether a transfer has a sector operand: guard (f) is for read-sector and write-sector (R172). -/
def Transfer.hasSector : Transfer → Bool
  | .readSector => true
  | .writeSector => true
  | .readAddress => false
  | .format => false

/-- Guards (a), (d), (e), (f), (g) of R172. Guards (b) and (c) hold wherever a session is at hand. -/
def guardsHold (k : Transfer) (ses : Session) (curtrk : Nat) (r : Request) : Bool :=
  decide (ses.st = .idle)
    && densityMatches r.dens ses.geo.density
    && decide (r.track = curtrk) && decide (r.track < ses.geo.tracks)
    && (!k.hasSector || decide (r.sector < ses.geo.spt))
    && (!r.side || decide (ses.geo.sides ≠ .single))

/-- The decoding of a host address inside the window (R41, R42, R43; log 20). -/
def decodeAddress (p : Profile) (addr : Nat) : Target :=
  if addr.testBit (ctrlAddrBit p) = ctrlAddrPol p then .control else .chip (BitVec.ofNat 2 addr)

end Sys2Proof.Machine
end

