-- ==== Sys2Proof/Machine/Ops.lean ====
section
/-!
DEFINITION. The named operations over images, drives and registers, and the events of the block: acceptance of a command
(R80, R81), the end of an operation, which stands in the place of taking an exception (R201 to R205, R216), the data request
(R200, R206), the acknowledgements that stand in the place of a return (R217), and the motor's transitions (R220 to R223).
-/

namespace Sys2Proof.Machine

/-! ### Images -/

/-- What an offset that is not listed reads as (log 11). -/
def Memory.unlisted : Byte := 0#8

/-- The byte at an offset. -/
def Memory.read : Memory → Nat → Byte
  | [], _ => Memory.unlisted
  | (k, b) :: rest, a => if k = a then b else Memory.read rest a

/-- Store a byte, keeping the canonical form: the value of an unlisted offset is not listed. -/
def Memory.write : Memory → Nat → Byte → Memory
  | [], a, b => if b = Memory.unlisted then [] else [(a, b)]
  | (k, c) :: rest, a, b =>
    if k < a then (k, c) :: Memory.write rest a b
    else if k = a then (if b = Memory.unlisted then rest else (k, b) :: rest)
    else (if b = Memory.unlisted then (k, c) :: rest else (a, b) :: (k, c) :: rest)

/-- Store byte `b` at `n` offsets from `a` up. -/
def Memory.fill : Memory → Nat → Nat → Byte → Memory
  | m, _, 0, _ => m
  | m, a, n + 1, b => Memory.fill (Memory.write m a b) (a + 1) n b

/-- The memory that holds a sequence of bytes from offset `a` up. -/
def Memory.ofBytes : Nat → List Byte → Memory
  | _, [] => []
  | a, b :: rest => if b = Memory.unlisted then Memory.ofBytes (a + 1) rest else (a, b) :: Memory.ofBytes (a + 1) rest

/-- The canonical form from offset `lo` up: offsets strictly rising, no listed byte that an unlisted offset reads as. -/
def Memory.wfFrom : Nat → Memory → Bool
  | _, [] => true
  | lo, (k, b) :: rest => decide (lo ≤ k) && decide (b ≠ Memory.unlisted) && Memory.wfFrom (k + 1) rest

/-- The canonical form. -/
def Memory.wf (m : Memory) : Bool := Memory.wfFrom 0 m

/-- Every listed offset is below `n`. -/
def Memory.within : Memory → Nat → Bool
  | [], _ => true
  | (k, _) :: rest, n => decide (k < n) && Memory.within rest n

/-- `length(img[d])` (R47). -/
def Session.size (ses : Session) : Nat := ses.geo.imageLength

/-- `ImgRead(d, off)`; none where R48 gives it no meaning. -/
def imgRead (ses : Session) (off : Nat) : Option Byte :=
  if off < ses.size then some (Memory.read ses.img off) else none

/-- `ImgWrite(d, off, b)`; none where R49 gives it no meaning. -/
def imgWrite (ses : Session) (off : Nat) (b : Byte) : Option Session :=
  if off < ses.size then some { ses with img := Memory.write ses.img off b } else none

/-- `ImgWrite(d, off + i, b)` for `i` in `0 .. n - 1` (R184); none where R49 gives one of them no meaning. -/
def imgFill (ses : Session) (off n : Nat) (b : Byte) : Option Session :=
  if off + n ≤ ses.size then some { ses with img := Memory.fill ses.img off n b } else none

/-! ### Drives -/

/-- Drive `d`. -/
def State.drive (s : State) (d : DriveIx) : Drive :=
  match d with
  | .d0 => s.drive0
  | .d1 => s.drive1

/-- Replace drive `d`. -/
def State.setDrive (s : State) (d : DriveIx) (x : Drive) : State :=
  { s with
    drive0 := match d with | .d0 => x | .d1 => s.drive0
    drive1 := match d with | .d0 => s.drive1 | .d1 => x }

/-- Put a session into drive `d`. -/
def State.setSession (s : State) (d : DriveIx) (ses : Session) : State :=
  s.setDrive d { s.drive d with bound := .image ses }

/-- The session with no operation running (R185). -/
def Session.stop (ses : Session) : Session := { ses with st := .idle }

/-- A binding after abort (R159, R185). -/
def Binding.stop : Binding → Binding
  | .empty => .empty
  | .image ses => .image ses.stop
  | .alt => .alt

/-- `dispatch.abort(d)` (R159, R185): an image's machine goes idle, nothing else changes, no callback. -/
def abort (d : DriveIx) (s : State) : State :=
  s.setDrive d { s.drive d with bound := (s.drive d).bound.stop }

/-- `for d in 0..1: dispatch.abort(d)` (R120, R240, R241). -/
def abortAll (s : State) : State := abort .d1 (abort .d0 s)

/-- Whether an operation is in flight on drive `d`: `st[d] != IDLE` (R162). -/
def inFlight (s : State) (d : DriveIx) : Bool :=
  match (s.drive d).bound with
  | .image ses => decide (ses.st ≠ .idle)
  | .empty => false
  | .alt => false

/-! ### The motor -/

/-- `SpinUp()` (R81). -/
def spinUp (s : State) : State :=
  { s with motorOn := true, sts := setBit s.sts stMotor, spindown := spindownTicks }

/-- `StartSpinDown()` (R221). -/
def startSpinDown (s : State) : State := { s with spindown := spindownTicks }

/-- `SpinDownNow()` (R222). -/
def spinDownNow (s : State) : State :=
  { s with motorOn := false, sts := clearBit s.sts stMotor, spindown := 0 }

/-- The motor timer's step, once per Tick (R223). -/
def motorStep (s : State) : State :=
  if 0 < s.spindown then
    if s.spindown - 1 = 0 then
      { s with spindown := 0, motorOn := false, sts := clearBit s.sts stMotor }
    else { s with spindown := s.spindown - 1 }
  else s

/-! ### Events -/

/-- `if IRQ_GATE(PROFILE, e, ctl, cmd): irq_done <- 1` (R212, R213). -/
def raiseDone (e : Event) (s : State) : State :=
  { s with irqDone := s.irqDone || irqGate profile e s.ctl s.cmd }

/-- The end of an operation by event `e` (R201 to R205, R216): it saves nothing and has no vector; it writes the whole
status pattern, moves the motor, and raises the completion interrupt where the gate lets it. -/
def complete (e : Event) (pat : Byte) (motor : State → State) (s : State) : State :=
  raiseDone e (motor { s with sts := pat })

/-- `cb.data_ready(b)` (R200). -/
def cbDataReady (b : Byte) (s : State) : State :=
  { s with dat := b, sts := setBit s.sts stDrq, irqDrq := true }

/-- `cb.finished()` (R201). -/
def cbFinished (s : State) : State := complete .finished (patDone s.cmd s.trk) startSpinDown s

/-- `cb.not_found()` (R202). -/
def cbNotFound (s : State) : State := complete .notFound patNotFound spinDownNow s

/-- `cb.data_crc_error()` (R203). -/
def cbDataCrcError (s : State) : State := complete .dataCrc patDataCrc spinDownNow s

/-- `cb.header_crc_error()` (R204). -/
def cbHeaderCrcError (s : State) : State := complete .headCrc patHeadCrc spinDownNow s

/-- `cb.write_protect()` (R205). -/
def cbWriteProtect (s : State) : State := complete .wrProt patWrProt spinDownNow s

/-- Raise the data request: the DRQ flag and its latch (R102, R206). -/
def raiseDrq (s : State) : State := { s with sts := setBit s.sts stDrq, irqDrq := true }

/-- `cb.pull(last)` (R206): none is `UNDERRUN`, which changes nothing; otherwise the byte and the state after. -/
def cbPull (last : Bool) (s : State) : Option (Byte × State) :=
  if s.written then
    if last then some (s.dat, { s with written := false })
    else some (s.dat, raiseDrq { s with written := false })
  else none

/-- The host's acknowledgement of a data request (R136, R137, R211, R217). -/
def ackDrq (s : State) : State := { s with sts := clearBit s.sts stDrq, irqDrq := false }

/-- The host's acknowledgement of a completion (R131, R212, R217). -/
def ackDone (s : State) : State := { s with irqDone := false }

/-! ### Resets -/

/-- `SoftReset()` (R241). -/
def softReset (s : State) : State :=
  { abortAll s with
    nfCount := 0, seekCount := 0, cmd := 0#8, sts := 0#8, written := false, irqDone := false, irqDrq := false,
    motorOn := false, spindown := 0 }

/-- The environment's `RESET` after startup (R240): bindings, images, heads and write-protect flags stay. The model's own
fields stay too (log 16). -/
def machineReset (s : State) : State :=
  { abortAll s with
    cmd := 0#8, trk := 0#8, sec := 0#8, dat := 0#8, sts := 0#8, ctl := 0#8, side := false, dens := false, drv := .d0,
    stepdir := stepdirReset, written := false, motorOn := false, spindown := 0, irqDone := false,
    irqDrq := false, nfCount := 0, seekCount := 0 }

/-! ### Commands -/

/-- Go on after a next state; a fault or a refusal stands. -/
def andThen (r : Result) (f : State → Result) : Result :=
  match r with
  | .next s => f s
  | .fault e => .fault e
  | .refused e => .refused e

/-- `cmd <- v`, and the spin-up of every command but Force Interrupt (R80, R81). -/
def latchCommand (v : Byte) (s : State) : State :=
  if opOf v = 0xD#4 then { s with cmd := v } else spinUp { s with cmd := v }

/-- The acceptance of a command byte (R80): ignored whole while busy, unless it is Force Interrupt. -/
def acceptCommand (v : Byte) (rule : State → Result) (s : State) : Result :=
  if s.busy && opOf v != 0xD#4 then .next s else rule (latchCommand v s)

end Sys2Proof.Machine
end

