-- ==== Sys2Proof/Machine/Control.lean ====
section
/-!
DEFINITION. Force Interrupt and the unrecognised command (42_force_interrupt_and_invalid.md).
-/

namespace Sys2Proof.Machine

/-- The status that Force Interrupt leaves: BUSY cleared while busy, `PAT_IDLE` while idle (R120). -/
def forceStatus (s : State) : Byte := if s.busy then clearBit s.sts stBusy else patIdle s.trk

/-- The rule of Force Interrupt (R120): cancel everything, the status, the countdown restarted, the gated interrupt. -/
def forceIntRule (s : State) : State :=
  raiseDone .forceInt
    (startSpinDown { abortAll s with nfCount := 0, seekCount := 0, sts := forceStatus s })

/-- FORCE_INT (R120, R121): accepted idle and busy. -/
def execForceInt (flags : BitVec 4) (s : State) : Result :=
  acceptCommand (encode (.forceInt flags)) (fun s => .next (forceIntRule s)) s

/-- INVALID (R122): the error status, the motor off, the gated interrupt. -/
def execInvalid (flags : BitVec 4) (s : State) : Result :=
  acceptCommand (encode (.invalid flags)) (fun s => .next (complete .badCmd patNotFound spinDownNow s)) s

end Sys2Proof.Machine
end

