-- ==== Sys2Proof/Machine/DriveOps.lean ====
section
/-!
DEFINITION. The drive-dispatch interface (44_drive_dispatch.md) and the start of a transfer in the image backend
(45_sector_transfer.md R172 to R175).
-/

namespace Sys2Proof.Machine

/-- The backend's start of a transfer: the guards of R172, then R174 or R175; a failing guard starts the not-found
countdown, whatever ran before (R173). -/
def beginTransfer (k : Transfer) (curtrk : Nat) (r : Request) (ses : Session) : Session :=
  if guardsHold k ses curtrk r then
    match k with
    | .readSector =>
      { ses with ttrk := r.track, tside := r.side.toNat, tsec := r.sector,
                 pos := sectorOffset ses.geo r.track r.side r.sector, cnt := ses.geo.secsize, st := .read }
    | .writeSector =>
      { ses with ttrk := r.track, tside := r.side.toNat, tsec := r.sector,
                 pos := sectorOffset ses.geo r.track r.side r.sector, cnt := ses.geo.secsize, st := .write }
    | .readAddress =>
      { ses with ttrk := r.track, tside := r.side.toNat, stage := 0, st := .addr }
    | .format =>
      { ses with ttrk := r.track, tside := r.side.toNat,
                 pos := sectorOffset ses.geo r.track r.side 0, cnt := ses.geo.spt, st := .format }
  else { ses with st := .notFound, cnt := notFoundTicks }

/-- The four transfer-initiating calls, by what the drive is bound to (R153 to R157): the backend's operation; the
synthesised not-found countdown; or the refusal of an alternate backend (log 13). -/
def dispatchTransfer (k : Transfer) (d : DriveIx) (r : Request) (s : State) : Result :=
  match (s.drive d).bound with
  | .image ses => .next (s.setSession d (beginTransfer k (s.drive d).curtrk r ses))
  | .empty => .next { s with nfCount := notFoundTicks }
  | .alt => .refused .altBackend

/-- What the dispatch layer does in a seek, whatever the image backend would add (R152, R176): it records the track and
starts the countdown. It has no failure path. -/
def recordSeek (d : DriveIx) (t : Nat) (s : State) : State :=
  { s.setDrive d { s.drive d with curtrk := t } with seekCount := seekTicks d (s.drive d).curtrk t }

/-- `dispatch.seek(d, t)`, by what the drive is bound to: an image and an empty drive take the seek (R152, D21); an alternate
backend is refused (R151, D31, U4; log 13). -/
def dispatchSeek (d : DriveIx) (t : Nat) (s : State) : Result :=
  match (s.drive d).bound with
  | .image _ => .next (recordSeek d t s)
  | .empty => .next (recordSeek d t s)
  | .alt => .refused .altBackend

end Sys2Proof.Machine
end

