-- ==== Sys2Proof/Machine/Positioning.lean ====
section
/-!
DEFINITION. The positioning commands (40_positioning.md).
-/

namespace Sys2Proof.Machine

/-- Common to the five (R82): the new `trk`, `PAT_POSITION` with its track-0 term, one `dispatch.seek(drv, trk)`. -/
def positionTo (t : Byte) (s : State) : Result :=
  dispatchSeek s.drv t.toNat { s with trk := t, sts := patPosition t }

/-- RESTORE (R84). -/
def execRestore (flags : BitVec 4) (s : State) : Result :=
  acceptCommand (encode (.restore flags)) (positionTo 0#8) s

/-- SEEK (R85). -/
def execSeek (flags : BitVec 4) (s : State) : Result :=
  acceptCommand (encode (.seek flags)) (fun s => positionTo s.dat s) s

/-- STEP (R86, R83). The direction is always a value, `STEPDIR_RESET` if none was set since reset (log 2). -/
def execStep (low : BitVec 5) (s : State) : Result :=
  acceptCommand (encode (.step low)) (fun s => positionTo (stepTrack s.stepdir s.trk) s) s

/-- STEP_IN (R87, R83). -/
def execStepIn (low : BitVec 5) (s : State) : Result :=
  acceptCommand (encode (.stepIn low))
    (fun s => positionTo (stepTrack .inward s.trk) { s with stepdir := .inward }) s

/-- STEP_OUT (R88, R83). -/
def execStepOut (low : BitVec 5) (s : State) : Result :=
  acceptCommand (encode (.stepOut low))
    (fun s => positionTo (stepTrack .outward s.trk) { s with stepdir := .outward }) s

end Sys2Proof.Machine
end

