-- ==== Sys2Proof/Machine/Transfer.lean ====
section
/-!
DEFINITION. The transfer commands (41_transfer.md).
-/

namespace Sys2Proof.Machine

/-- `PAT_TRANSFER`, then one dispatch call with the operands of R100. -/
def startTransfer (k : Transfer) (s : State) : Result :=
  dispatchTransfer k s.drv (requestOf s) { s with sts := patTransfer }

/-- READ_SECTOR (R101). -/
def execReadSector (low : BitVec 5) (s : State) : Result :=
  acceptCommand (encode (.readSector low)) (startTransfer .readSector) s

/-- The status transition of the fall-through, for the one nibble `WS_QUIRK_NIBBLE` (R103). -/
def writeFallThrough (v : Byte) (s : State) : State :=
  { s with sts := if opOf v = wsQuirkNibble then patTransfer else s.sts }

/-- The rule of Write Sector for command byte `v` (R102, R103): the call, the armed data request, the demand for a first
byte, the fall-through. -/
def writeSectorRule (v : Byte) (s : State) : Result :=
  andThen (startTransfer .writeSector s) fun s' => .next (writeFallThrough v { raiseDrq s' with written := false })

/-- WRITE_SECTOR with nibble 0xA (R102, R103). -/
def execWriteSectorA (flags : BitVec 4) (s : State) : Result :=
  acceptCommand (encode (.writeSectorA flags)) (writeSectorRule (encode (.writeSectorA flags))) s

/-- WRITE_SECTOR with nibble 0xB (R102, R103). -/
def execWriteSectorB (flags : BitVec 4) (s : State) : Result :=
  acceptCommand (encode (.writeSectorB flags)) (writeSectorRule (encode (.writeSectorB flags))) s

/-- READ_ADDRESS (R104). -/
def execReadAddress (flags : BitVec 4) (s : State) : Result :=
  acceptCommand (encode (.readAddress flags)) (startTransfer .readAddress) s

/-- WRITE_TRACK (R105). -/
def execWriteTrack (flags : BitVec 4) (s : State) : Result :=
  acceptCommand (encode (.writeTrack flags)) (startTransfer .format) s

end Sys2Proof.Machine
end

