-- ==== Sys2Proof/Machine/Dispatch.lean ====
section
/-!
DEFINITION. The meaning of every command, one arm per constructor (R61).
-/

namespace Sys2Proof.Machine

def exec (i : Instr) (s : State) : Host.Outcome State Fault Refusal :=
  match i with
  | .restore flags => Sys2Proof.Machine.execRestore flags s
  | .seek flags => Sys2Proof.Machine.execSeek flags s
  | .step low => Sys2Proof.Machine.execStep low s
  | .stepIn low => Sys2Proof.Machine.execStepIn low s
  | .stepOut low => Sys2Proof.Machine.execStepOut low s
  | .readSector low => Sys2Proof.Machine.execReadSector low s
  | .writeSectorA flags => Sys2Proof.Machine.execWriteSectorA flags s
  | .writeSectorB flags => Sys2Proof.Machine.execWriteSectorB flags s
  | .readAddress flags => Sys2Proof.Machine.execReadAddress flags s
  | .forceInt flags => Sys2Proof.Machine.execForceInt flags s
  | .invalid flags => Sys2Proof.Machine.execInvalid flags s
  | .writeTrack flags => Sys2Proof.Machine.execWriteTrack flags s

end Sys2Proof.Machine
end

