-- ==== Sys2Proof/Machine/Access.lean ====
section
/-!
DEFINITION. Host access to the register file (43_register_access.md).
-/

namespace Sys2Proof.Machine

/-- The host read returns `b` (log 9). -/
def returnByte (b : Byte) (s : State) : State := { s with hostRead := b }

/-- A host read of a target (R131, R132, R134, R136, R140). The byte is what the register held before the side effect. -/
def readTarget (t : Target) (s : State) : State :=
  match t with
  | .chip n =>
    match n.toNat with
    | 0 => ackDone (returnByte s.sts s)
    | 1 => returnByte s.trk s
    | 2 => returnByte s.sec s
    | _ => ackDrq (returnByte s.dat s)
  | .control => { returnByte (freeByte s.freeCount) s with freeCount := s.freeCount + 1 }

/-- `ctl`, and what the profile makes of the byte (R139). -/
def latchControl (v : Byte) (s : State) : State :=
  { s with ctl := v, drv := driveOf profile v, side := sideOf profile v, dens := densityOf profile v }

/-- `WR CTL, #v` (R139). -/
def writeControl (v : Byte) (s : State) : State :=
  if resetOf profile v then softReset (latchControl v s) else latchControl v s

/-- A host write of a target (R133, R135, R137, R138, R139). A write of `CHIP(0)` runs the decoded command (R80). -/
def writeTarget (t : Target) (v : Byte) (s : State) : Result :=
  match t with
  | .chip n =>
    match n.toNat with
    | 0 => exec (decode v) s
    | 1 => .next { s with trk := v }
    | 2 => .next { s with sec := v }
    | _ => .next { ackDrq s with dat := v, written := true }
  | .control => .next (writeControl v s)

end Sys2Proof.Machine
end

