-- ==== Sys2Proof/Machine/Environment.lean ====
section
/-!
DEFINITION. The environment's actions on the drives (44_drive_dispatch.md R160 to R163), and what an alternate backend can do
to the block (R151, R200 to R206, R217).
-/

namespace Sys2Proof.Machine

/-- A fresh session (R160). -/
def newSession (g : Geometry) (bytes : List Byte) (ro : Bool) : Session :=
  { img := Memory.ofBytes 0 bytes, geo := g, swp := ro, st := .idle, cnt := 0, stage := 0, ttrk := 0, tside := 0,
    tsec := 0, pos := 0, div := 0, asec := 0 }

/-- Change what a drive is bound to; `wp[d]` and `curtrk[d]` stay (R160, R161). A binding that is left ceases to exist with
its session. -/
def rebind (d : DriveIx) (b : Binding) (s : State) : State := s.setDrive d { s.drive d with bound := b }

/-- `BIND d, g, bytes, ro` (R160). Refused with an operation in flight on the drive (R162), with a geometry that breaks R46,
with an image of another length (R47). -/
def bindImage (d : DriveIx) (g : Geometry) (bytes : List Byte) (ro : Bool) (s : State) : Result :=
  if inFlight s d then .refused .operationInFlight
  else if !g.wf then .refused .badGeometry
  else if !g.fits bytes then .refused .imageLength
  else .next (rebind d (.image (newSession g bytes ro)) s)

/-- Loading the alternate backend into drive `d` (R22, R24): "a model refuses a drive so bound" (R151, D31, U4; log 14), here
where the drive would become so bound. -/
def bindAlternate (_d : DriveIx) (_s : State) : Result := .refused .altBackend

/-- `CLOSE d` (R161, R187); refused with an operation in flight (R162). -/
def closeImage (d : DriveIx) (s : State) : Result :=
  if inFlight s d then .refused .operationInFlight else .next (rebind d .empty (abort d s))

/-- `WPROT d, b` (R163). -/
def setWriteProtect (d : DriveIx) (b : Bool) (s : State) : State := s.setDrive d { s.drive d with wp := b }

/-- The effect of a callback on the controller (R200 to R206): "the callbacks test nothing" (R217). The byte that a pull
hands to an alternate backend leaves the block (log 14). -/
def runCallback (c : Callback) (s : State) : State :=
  match c with
  | .dataReady b => cbDataReady b s
  | .finished => cbFinished s
  | .notFound => cbNotFound s
  | .dataCrcError => cbDataCrcError s
  | .headerCrcError => cbHeaderCrcError s
  | .writeProtect => cbWriteProtect s
  | .pull last =>
    match cbPull last s with
    | some (_, s') => s'
    | none => s

/-- A callback of drive `d`'s alternate backend (log 14). -/
def alternateCallback (d : DriveIx) (c : Callback) (s : State) : Result :=
  match (s.drive d).bound with
  | .alt => .next (runCallback c s)
  | .empty => .refused .noAltBackend
  | .image _ => .refused .noAltBackend

end Sys2Proof.Machine
end

