-- ==== Sys2Proof/Machine/Backend.lean ====
section
/-!
DEFINITION. The sector-transfer state machine of the image backend: the poll divider (R177) and the step of each state, once
per divided tick (R178 to R184). Each step is given the session `ses` of drive `d`, whose divider has been put back.
-/

namespace Sys2Proof.Machine

/-- `NOTFOUND` (R179). -/
def notFoundTick (d : DriveIx) (ses : Session) (s : State) : Result :=
  if ses.cnt - 1 = 0 then
    .next (cbNotFound (s.setSession d { ses with cnt := ses.cnt - 1, st := .idle }))
  else .next (s.setSession d { ses with cnt := ses.cnt - 1 })

/-- `READ` (R180): the byte, then, on the last one, `finished` in the same divided tick (R215). -/
def readTick (d : DriveIx) (ses : Session) (s : State) : Result :=
  match imgRead ses ses.pos with
  | none => .fault .imageOffset
  | some b =>
    if ses.cnt - 1 = 0 then
      .next (cbFinished (cbDataReady b
        (s.setSession d { ses with pos := ses.pos + 1, cnt := ses.cnt - 1, st := .idle })))
    else
      .next (cbDataReady b (s.setSession d { ses with pos := ses.pos + 1, cnt := ses.cnt - 1 }))

/-- The write-protect test (R186): the drive's flag or the session's. -/
def isProtected (d : DriveIx) (ses : Session) (s : State) : Bool := (s.drive d).wp || ses.swp

/-- `WRITE` (R181, R182): write-protect first, then the pull, then the store. -/
def writeTick (d : DriveIx) (ses : Session) (s : State) : Result :=
  if isProtected d ses s then .next (cbWriteProtect (s.setSession d { ses with st := .idle }))
  else
    match cbPull (decide (ses.cnt = 1)) s with
    | none => .next s
    | some (b, s') =>
      match imgWrite ses ses.pos b with
      | none => .fault .imageOffset
      | some stored =>
        if ses.cnt - 1 = 0 then
          .next (cbFinished (s'.setSession d { stored with pos := ses.pos + 1, cnt := ses.cnt - 1, st := .idle }))
        else .next (s'.setSession d { stored with pos := ses.pos + 1, cnt := ses.cnt - 1 })

/-- The sector byte of Read Address: the address pointer (R183). A pointer of 256 or more, which needs `spt` over 256, does not
fit the byte, and R183 states a truncation for track and side only: the byte is then a free value (DESIGN CHOICE, log 23). -/
def sectorByte (asec : Nat) : Byte := if asec < 256 then BitVec.ofNat 8 asec else wideSector asec

/-- The byte that Read Address reports at a stage below 6 (R183): track and side, truncated, sector, three reserved bytes. -/
def addressByte (ses : Session) : Byte :=
  match ses.stage with
  | 0 => BitVec.ofNat 8 ses.ttrk
  | 1 => BitVec.ofNat 8 ses.tside
  | 2 => sectorByte ses.asec
  | 3 => addrRsvd0
  | 4 => addrRsvd1
  | _ => addrRsvd2

/-- `ADDR` (R183): six bytes, then `finished`. A stage past 6, which no state of the invariant has, does nothing (log 22). -/
def addrTick (d : DriveIx) (ses : Session) (s : State) : Result :=
  if ses.stage < 6 then .next (cbDataReady (addressByte ses) (s.setSession d { ses with stage := ses.stage + 1 }))
  else if ses.stage = 6 then
    .next (cbFinished (s.setSession d { ses with st := .idle, asec := (ses.asec + 1) % ses.geo.spt }))
  else .next s

/-- `FORMAT` (R184): write-protect first, then one sector of filler. -/
def formatTick (d : DriveIx) (ses : Session) (s : State) : Result :=
  if isProtected d ses s then .next (cbWriteProtect (s.setSession d { ses with st := .idle }))
  else
    match imgFill ses ses.pos ses.geo.secsize filler with
    | none => .fault .imageOffset
    | some filled =>
      if ses.cnt - 1 = 0 then
        .next (cbFinished
          (s.setSession d { filled with pos := ses.pos + ses.geo.secsize, cnt := ses.cnt - 1, st := .idle }))
      else .next (s.setSession d { filled with pos := ses.pos + ses.geo.secsize, cnt := ses.cnt - 1 })

/-- The step of the session's state, once per divided tick (R178 to R184, R190). -/
def dividedTick (d : DriveIx) (ses : Session) (s : State) : Result :=
  match ses.st with
  | .idle => .next s
  | .notFound => notFoundTick d ses s
  | .read => readTick d ses s
  | .write => writeTick d ses s
  | .addr => addrTick d ses s
  | .format => formatTick d ses s

/-- `backend_poll(d)` for a session (R177): the divider runs in every state; on its wrap the state's step runs. -/
def pollSession (d : DriveIx) (ses : Session) (s : State) : Result :=
  if ses.div + 1 < byteDivider then .next (s.setSession d { ses with div := ses.div + 1 })
  else dividedTick d { ses with div := 0 } (s.setSession d { ses with div := 0 })

/-- `if bound[d] = IMAGE: backend_poll(d)` (R158). -/
def backendPoll (d : DriveIx) (s : State) : Result :=
  match (s.drive d).bound with
  | .image ses => pollSession d ses s
  | .empty => .next s
  | .alt => .next s

end Sys2Proof.Machine
end

