-- ==== Sys2Proof/Machine/Tick.lean ====
section
/-!
DEFINITION. The Tick (R230): the dispatch layer's poll (R158) and the motor timer (R223).
-/

namespace Sys2Proof.Machine

/-- The not-found countdown of a declined operation (R157, R158). -/
def nfStep (s : State) : State :=
  if 0 < s.nfCount then
    if s.nfCount - 1 = 0 then cbNotFound { s with nfCount := 0 } else { s with nfCount := s.nfCount - 1 }
  else s

/-- The seek countdown (R152, R158, R89). -/
def seekStep (s : State) : State :=
  if 0 < s.seekCount then
    if s.seekCount - 1 = 0 then cbFinished { s with seekCount := 0 } else { s with seekCount := s.seekCount - 1 }
  else s

/-- `dispatch.poll()`: backend 0, backend 1, `nf_count`, `seek_count`, in this order (R158). -/
def dispatchPoll (s : State) : Result :=
  andThen (backendPoll .d0 s) fun s1 => andThen (backendPoll .d1 s1) fun s2 => .next (seekStep (nfStep s2))

/-- One Tick (R230). -/
def tick (s : State) : Result := andThen (dispatchPoll s) fun s' => .next (motorStep s')

end Sys2Proof.Machine
end

