-- ==== Sys2Proof/Machine/Actions.lean ====
section
/-!
DEFINITION. One action of one agent (R4), and which action comes next (log 7, log 8).
-/

namespace Sys2Proof.Machine

/-- The effect of an action (R4, R69). -/
def perform (a : Action) (s : State) : Result :=
  match a with
  | .read t => .next (readTarget t s)
  | .write t v => writeTarget t v s
  | .tick => tick s
  | .bind d g bytes ro => bindImage d g bytes ro s
  | .bindAlt d => bindAlternate d s
  | .close d => closeImage d s
  | .wprot d b => .next (setWriteProtect d b s)
  | .reset => .next (machineReset s)
  | .altCallback d c => alternateCallback d c s

/-- The next action and the state with it taken off the queue; with nothing queued, a Tick: it "is always enabled" (R230,
log 8). -/
def nextAction (s : State) : Action × State :=
  match s.inbox with
  | [] => (.tick, s)
  | a :: rest => (a, { s with inbox := rest })

/-- Put an action at the front of the queue. -/
def enqueueFirst (a : Action) (s : State) : State := { s with inbox := a :: s.inbox }

end Sys2Proof.Machine
end

