-- ==== Sys2Proof/Machine/Step.lean ====
section
/-!
DEFINITION. One step of the machine: one atomic action of one agent (R4, R53).
-/

namespace Sys2Proof.Machine

/-- One step: the next action, performed. -/
def step (s : State) : Host.Outcome State Fault Refusal := perform (nextAction s).1 (nextAction s).2

/-- The state whose next action is the host's write of this command byte to `CHIP(0)` (R138; log 19). -/
def State.withFetchWord (s : State) (nbits w : Nat) : State :=
  enqueueFirst (.write (.chip 0) (BitVec.ofNat 8 (w % 2 ^ nbits))) s

end Sys2Proof.Machine
end

