-- ==== Sys2Proof/Safety.lean ====
section
/-!
DEFINITION. The terms that claims use: reading one byte of an image, what a command leaves alone, when a request passes the
guards of R172, repeated polls, and the invariants of the machine (R33, R37, R46, R47, R64).
-/

namespace Sys2Proof.Machine

/-! ### Reading -/

/-- The byte at offset `a` of the image in drive `d` (R48); none without an image or past its end. -/
def imageByte (s : State) (d : DriveIx) (a : Nat) : Option Byte :=
  match (s.drive d).bound with
  | .image ses => imgRead ses a
  | .empty => none
  | .alt => none

/-- Every byte of both images reads in `t` as it did in `s`. -/
def SameImages (s t : State) : Prop := ∀ d a, imageByte t d a = imageByte s d a

/-- Whether an operation runs on drive `d`, as a number (R37). -/
def driveActive (s : State) (d : DriveIx) : Nat := if inFlight s d then 1 else 0

/-- How many of `st[0]`, `st[1]`, `nf_count`, `seek_count` are active (R37). -/
def activeCount (s : State) : Nat :=
  driveActive s .d0 + driveActive s .d1 + (if s.nfCount = 0 then 0 else 1) + (if s.seekCount = 0 then 0 else 1)

/-! ### What commands leave alone -/

/-- What no command writes: `sec` and `dat`, the control register and what was derived from it, and the model's own fields. -/
structure CommandFrame (s t : State) : Prop where
  sec       : t.sec = s.sec
  dat       : t.dat = s.dat
  ctl       : t.ctl = s.ctl
  side      : t.side = s.side
  dens      : t.dens = s.dens
  drv       : t.drv = s.drv
  inbox     : t.inbox = s.inbox
  hostRead  : t.hostRead = s.hostRead
  freeCount : t.freeCount = s.freeCount

/-- The frame of a positioning command (R82): of the drives only `curtrk[drv]` may differ, no byte of an image does, and
`written`, the latches and `nf_count` are as before. -/
structure PositioningFrame (s t : State) : Prop where
  command  : CommandFrame s t
  written  : t.written = s.written
  irqDone  : t.irqDone = s.irqDone
  irqDrq   : t.irqDrq = s.irqDrq
  nfCount  : t.nfCount = s.nfCount
  other    : ∀ d, d ≠ s.drv → t.drive d = s.drive d
  wp       : (t.drive s.drv).wp = (s.drive s.drv).wp
  bound    : (t.drive s.drv).bound = (s.drive s.drv).bound
  images   : SameImages s t

/-- What the five positioning commands do alike (R80, R81, R82, R152): command byte `v`, new track `new`. -/
structure Positioned (s t : State) (v new : Byte) : Prop where
  cmd       : t.cmd = v
  trk       : t.trk = new
  sts       : t.sts = bit stMotor ||| bit stBusy ||| (if new = 0#8 then bit stTrack0 else 0#8)
  curtrk    : (t.drive s.drv).curtrk = new.toNat
  seekCount : t.seekCount = seekTicks s.drv (s.drive s.drv).curtrk new.toNat
  motorOn   : t.motorOn = true
  spindown  : t.spindown = spindownTicks

/-- What the transfer commands do alike (R80, R81, R100): command byte `v`; no register but those named here and in the
command's own statement changes, and no byte of an image. -/
structure TransferCommon (s t : State) (v : Byte) : Prop where
  cmd       : t.cmd = v
  motorOn   : t.motorOn = true
  spindown  : t.spindown = spindownTicks
  command   : CommandFrame s t
  trk       : t.trk = s.trk
  stepdir   : t.stepdir = s.stepdir
  irqDone   : t.irqDone = s.irqDone
  seekCount : t.seekCount = s.seekCount
  other     : ∀ d, d ≠ s.drv → t.drive d = s.drive d
  wp        : (t.drive s.drv).wp = (s.drive s.drv).wp
  curtrk    : (t.drive s.drv).curtrk = (s.drive s.drv).curtrk
  images    : SameImages s t

/-- The seven guards of R172 for a request made now on drive `drv`, whose session is `ses`; guard (f) only with a sector
operand. -/
structure GuardsPass (s : State) (ses : Session) (withSector : Bool) : Prop where
  idle    : ses.st = .idle
  density : (s.dens = false ∧ ses.geo.density = .singleD) ∨
    (s.dens = true ∧ (ses.geo.density = .doubleD ∨ ses.geo.density = .quadD))
  onTrack : s.trk.toNat = (s.drive s.drv).curtrk
  track   : s.trk.toNat < ses.geo.tracks
  sector  : withSector = true → s.sec.toNat < ses.geo.spt
  side    : s.side = false ∨ ses.geo.sides ≠ .single

/-- What a transfer command does in every binding of the selected drive (R153 to R157, R173 to R175): an image drive starts
the transfer (`started` gives the session then) or, when a guard fails, the backend's not-found countdown; an empty drive
starts the dispatch countdown; an alternate backend is refused. `after` is what the command leaves in the registers. -/
def StartsTransfer (i : Instr) (v : Byte) (s : State) (withSector : Bool) (started : Session → Session)
    (after : State → Prop) : Prop :=
  (∀ ses, (s.drive s.drv).bound = .image ses →
    ∃ t, exec i s = .next t ∧ TransferCommon s t v ∧ after t ∧ t.nfCount = s.nfCount ∧
      (GuardsPass s ses withSector → (t.drive s.drv).bound = .image (started ses)) ∧
      (¬ GuardsPass s ses withSector →
        (t.drive s.drv).bound = .image { ses with st := .notFound, cnt := notFoundTicks })) ∧
  ((s.drive s.drv).bound = .empty →
    ∃ t, exec i s = .next t ∧ TransferCommon s t v ∧ after t ∧ t.nfCount = notFoundTicks ∧
      t.drive s.drv = s.drive s.drv) ∧
  ((s.drive s.drv).bound = .alt → exec i s = .refused .altBackend)

/-! ### Repetition -/

/-- `n` polls of drive `d`'s backend, one after the other (R177). -/
def polls (d : DriveIx) : Nat → State → Result
  | 0, s => .next s
  | n + 1, s => andThen (backendPoll d s) (polls d n)

/-- `n` steps, one after the other (R53). -/
def steps : Nat → State → Result
  | 0, s => .next s
  | n + 1, s => andThen (step s) (steps n)

/-- What no poll of drive `d`'s backend writes (R27, R158, R190): the registers that only the host and the commands write, the
dispatch layer's countdowns, the other drive, the flag and the head of drive `d`, and the model's own fields. -/
structure PollFrame (d : DriveIx) (s t : State) : Prop where
  cmd       : t.cmd = s.cmd
  trk       : t.trk = s.trk
  sec       : t.sec = s.sec
  ctl       : t.ctl = s.ctl
  side      : t.side = s.side
  dens      : t.dens = s.dens
  drv       : t.drv = s.drv
  stepdir   : t.stepdir = s.stepdir
  nfCount   : t.nfCount = s.nfCount
  seekCount : t.seekCount = s.seekCount
  inbox     : t.inbox = s.inbox
  hostRead  : t.hostRead = s.hostRead
  freeCount : t.freeCount = s.freeCount
  other     : ∀ j, j ≠ d → t.drive j = s.drive j
  wp        : (t.drive d).wp = (s.drive d).wp
  curtrk    : (t.drive d).curtrk = (s.drive d).curtrk

/-! ### Invariants -/

/-- Where a running operation stands: its counter is not spent, and what it has still to move lies in the image (R31, R47). -/
def Session.InProgress (ses : Session) : Prop :=
  match ses.st with
  | .idle => True
  | .notFound => 1 ≤ ses.cnt ∧ ses.cnt ≤ notFoundTicks
  | .read => 1 ≤ ses.cnt ∧ ses.cnt ≤ ses.geo.secsize ∧ ses.pos + ses.cnt ≤ ses.size
  | .write => 1 ≤ ses.cnt ∧ ses.cnt ≤ ses.geo.secsize ∧ ses.pos + ses.cnt ≤ ses.size
  | .addr => True
  | .format => 1 ≤ ses.cnt ∧ ses.cnt ≤ ses.geo.spt ∧ ses.pos + ses.cnt * ses.geo.secsize ≤ ses.size

/-- A session as its rules keep it: a geometry of R46, an image in canonical form inside its length (R47), the ranges of
R31 and R33, and a sound operation. -/
structure Session.Sound (ses : Session) : Prop where
  geo      : ses.geo.wf = true
  form     : ses.img.wf = true
  inside   : Memory.within ses.img ses.size = true
  div      : ses.div < byteDivider
  stage    : ses.stage ≤ 6
  asec     : ses.asec < ses.geo.spt
  progress : ses.InProgress

/-- The invariant of the machine: the ranges of R20 and R34, the bit of `sts` that carries no flag clear (R64; bit 5 in the
default layout), sound sessions. -/
structure State.Sound (s : State) : Prop where
  unused   : ∀ n, isFlag n = false → s.sts.getLsbD n = false
  spindown : s.spindown ≤ spindownTicks
  nfCount  : s.nfCount ≤ notFoundTicks
  sessions : ∀ d ses, (s.drive d).bound = .image ses → ses.Sound

/-- R37: exactly one operation is in flight while busy, and none while idle. -/
def State.OneInFlight (s : State) : Prop := activeCount s = if s.busy then 1 else 0

/-- The motor and its flag never run without the countdown that ends them (R220 to R223, C2). -/
def State.MotorTimed (s : State) : Prop := (s.motorOn = true ∨ s.sts.getLsbD stMotor = true) → 0 < s.spindown

/-- No drive is bound to the alternate backend, which the model refuses to bind (R151, D31; log 14). -/
def State.NoAlternate (s : State) : Prop := ∀ d, (s.drive d).bound ≠ .alt

/-- The next action is not a callback of an alternate backend, which no rule of the spec produces (R217). -/
def State.NoAltCallback (s : State) : Prop := ∀ d c, (nextAction s).1 ≠ .altCallback d c

end Sys2Proof.Machine
end

