-- ==== Sys2Proof/Certificates/Slice0/Obligations.lean ====
section
/-!
DEFINITION. The statements about the block, for the provers. Each docstring names the rule of spec/ it comes from.
-/

open Sys2Proof Sys2Proof.Machine

/-! ### Encoding -/

/-- R60, R61, R62: one byte, one format; a command's byte decodes to the command, with every bit that its class does not
decode, whatever follows. -/
def Obligations.DecodeEncodeAgree : Prop :=
  ∀ (i : Instr) (rest : List Byte), decodeBytes (encodeBytes i ++ rest) = .ok (i, rest)

/-- R61, R62: every byte is a command, lies in the row of its class, and is that command's byte again. -/
def Obligations.EncodeDecodeAgree : Prop :=
  ∀ v : Byte, encode (decode v) = v ∧ (opcodeRow (decode v)).holds v = true ∧
    (opcodeTable.filter fun r => r.holds v) = [opcodeRow (decode v)]

/-- R61, R70: a few words of the opcode map. -/
def Obligations.SampleCommandBytes : Prop :=
  decode 0x0F#8 = .restore 0xF#4 ∧ decode 0x10#8 = .seek 0x0#4 ∧ decode 0x30#8 = .step 0x10#5 ∧
  decode 0x4F#8 = .stepIn 0x0F#5 ∧ decode 0x70#8 = .stepOut 0x10#5 ∧ decode 0x9F#8 = .readSector 0x1F#5 ∧
  decode 0xA0#8 = .writeSectorA 0x0#4 ∧ decode 0xB1#8 = .writeSectorB 0x1#4 ∧ decode 0xC0#8 = .readAddress 0x0#4 ∧
  decode 0xD8#8 = .forceInt 0x8#4 ∧ decode 0xE5#8 = .invalid 0x5#4 ∧ decode 0xF0#8 = .writeTrack 0x0#4

/-- R41, R42, R43: the profile's address bit tells the control register from the chip registers, among which the two low
address bits select. -/
def Obligations.HostAddressDecoded : Prop :=
  ∀ (p : Profile) (addr : Nat),
    (addr.testBit (ctrlAddrBit p) = ctrlAddrPol p → decodeAddress p addr = .control) ∧
    (addr.testBit (ctrlAddrBit p) ≠ ctrlAddrPol p →
      ∃ n, decodeAddress p addr = .chip n ∧ n.toNat = addr % 4) ∧
    ctrlAddrBit p ≠ 0 ∧ ctrlAddrBit p ≠ 1

/-! ### One step -/

/-- A step runs the decoded command: the write of a byte to `CHIP(0)` (R80, R138). -/
def Obligations.StepRunsDecodedCommand : Prop :=
  ∀ (s : State) (v : Byte) (rest : List Action), s.inbox = .write (.chip 0) v :: rest →
    step s = exec (decode v) { s with inbox := rest }

/-- A step performs the first queued action, and is a Tick when none is queued (the model's choice, logs 7 and 8). -/
def Obligations.StepPerformsOneAction : Prop :=
  ∀ s : State, (∀ a rest, s.inbox = a :: rest → step s = perform a { s with inbox := rest }) ∧
    (s.inbox = [] → step s = perform .tick s)

/-! ### Acceptance -/

/-- R250: a command written while busy changes nothing at all, unless it is Force Interrupt. -/
def Obligations.BusyIgnoresCommand : Prop :=
  ∀ (i : Instr) (s : State), s.busy = true → (∀ flags, i ≠ .forceInt flags) → exec i s = .next s

/-! ### Positioning

On a drive that the model does not refuse: image and empty drives. `AlternateDriveRefused` states the rest. -/

/-- R84: RESTORE. -/
def Obligations.RestoreResult : Prop :=
  ∀ (flags : BitVec 4) (s : State), s.busy = false → (s.drive s.drv).bound ≠ .alt →
    ∃ t, exec (.restore flags) s = .next t ∧ Positioned s t (0x0#4 ++ flags) 0#8 ∧
      t.stepdir = s.stepdir ∧ PositioningFrame s t

/-- R85: SEEK. -/
def Obligations.SeekResult : Prop :=
  ∀ (flags : BitVec 4) (s : State), s.busy = false → (s.drive s.drv).bound ≠ .alt →
    ∃ t, exec (.seek flags) s = .next t ∧ Positioned s t (0x1#4 ++ flags) s.dat ∧
      t.stepdir = s.stepdir ∧ PositioningFrame s t

/-- R86, R83: STEP, in either direction, modulo 256. The direction after reset is the open `STEPDIR_RESET` (log 2). -/
def Obligations.StepResult : Prop :=
  ∀ (low : BitVec 5) (s : State), s.busy = false → (s.drive s.drv).bound ≠ .alt →
    ∃ t new, exec (.step low) s = .next t ∧ Positioned s t (0b001#3 ++ low) new ∧
      (s.stepdir = .inward → new.toNat = (s.trk.toNat + 1) % 256) ∧
      (s.stepdir = .outward → new.toNat = (s.trk.toNat + 255) % 256) ∧
      t.stepdir = s.stepdir ∧ PositioningFrame s t

/-- R87, R83: STEP_IN. -/
def Obligations.StepInResult : Prop :=
  ∀ (low : BitVec 5) (s : State), s.busy = false → (s.drive s.drv).bound ≠ .alt →
    ∃ t new, exec (.stepIn low) s = .next t ∧ Positioned s t (0b010#3 ++ low) new ∧
      new.toNat = (s.trk.toNat + 1) % 256 ∧ t.stepdir = .inward ∧ PositioningFrame s t

/-- R88, R83: STEP_OUT. -/
def Obligations.StepOutResult : Prop :=
  ∀ (low : BitVec 5) (s : State), s.busy = false → (s.drive s.drv).bound ≠ .alt →
    ∃ t new, exec (.stepOut low) s = .next t ∧ Positioned s t (0b011#3 ++ low) new ∧
      new.toNat = (s.trk.toNat + 255) % 256 ∧ t.stepdir = .outward ∧ PositioningFrame s t

/-- R151, R153 to R156, D31, U4: a drive bound to the alternate backend is refused (for the seek of a positioning command and
for the binding itself: log 13, log 14, read from R151's "a model refuses a drive so bound"). -/
def Obligations.AlternateDriveRefused : Prop :=
  ∀ s : State,
    (s.busy = false → (s.drive s.drv).bound = .alt → ∀ i : Instr, (∀ flags, i ≠ .forceInt flags) →
      (∀ flags, i ≠ .invalid flags) → exec i s = .refused .altBackend) ∧
    ∀ d, perform (.bindAlt d) s = .refused .altBackend

/-! ### Transfers -/

/-- R101, with R153, R157, R172 to R174: READ_SECTOR. -/
def Obligations.ReadSectorResult : Prop :=
  ∀ (low : BitVec 5) (s : State), s.busy = false →
    StartsTransfer (.readSector low) (0b100#3 ++ low) s true
      (fun ses => { ses with
        ttrk := s.trk.toNat, tside := s.side.toNat, tsec := s.sec.toNat,
        pos := sectorOffset ses.geo s.trk.toNat s.side s.sec.toNat, cnt := ses.geo.secsize, st := .read })
      (fun t => t.sts = bit stMotor ||| bit stBusy ∧ t.irqDrq = s.irqDrq ∧ t.written = s.written)

/-- R102, R103, with R154, R157, R172 to R174: WRITE_SECTOR with nibble 0xA; the status is `PAT_TRANSFER` if that nibble
falls through and `PAT_WRITE` if not. -/
def Obligations.WriteSectorResultA : Prop :=
  ∀ (flags : BitVec 4) (s : State), s.busy = false →
    StartsTransfer (.writeSectorA flags) (0xA#4 ++ flags) s true
      (fun ses => { ses with
        ttrk := s.trk.toNat, tside := s.side.toNat, tsec := s.sec.toNat,
        pos := sectorOffset ses.geo s.trk.toNat s.side s.sec.toNat, cnt := ses.geo.secsize, st := .write })
      (fun t => (wsQuirkNibble = 0xA#4 → t.sts = bit stMotor ||| bit stBusy) ∧
        (wsQuirkNibble ≠ 0xA#4 → t.sts = bit stMotor ||| bit stBusy ||| bit stDrq) ∧
        t.irqDrq = true ∧ t.written = false)

/-- R102, R103, with R154, R157, R172 to R174: WRITE_SECTOR with nibble 0xB; the two nibbles' fall-through is never both. -/
def Obligations.WriteSectorResultB : Prop :=
  (wsQuirkNibble = 0xA#4 ∨ wsQuirkNibble = 0xB#4) ∧
  ∀ (flags : BitVec 4) (s : State), s.busy = false →
    StartsTransfer (.writeSectorB flags) (0xB#4 ++ flags) s true
      (fun ses => { ses with
        ttrk := s.trk.toNat, tside := s.side.toNat, tsec := s.sec.toNat,
        pos := sectorOffset ses.geo s.trk.toNat s.side s.sec.toNat, cnt := ses.geo.secsize, st := .write })
      (fun t => (wsQuirkNibble = 0xB#4 → t.sts = bit stMotor ||| bit stBusy) ∧
        (wsQuirkNibble ≠ 0xB#4 → t.sts = bit stMotor ||| bit stBusy ||| bit stDrq) ∧
        t.irqDrq = true ∧ t.written = false)

/-- R104, with R155, R157, R172, R173, R175: READ_ADDRESS. -/
def Obligations.ReadAddressResult : Prop :=
  ∀ (flags : BitVec 4) (s : State), s.busy = false →
    StartsTransfer (.readAddress flags) (0xC#4 ++ flags) s false
      (fun ses => { ses with ttrk := s.trk.toNat, tside := s.side.toNat, stage := 0, st := .addr })
      (fun t => t.sts = bit stMotor ||| bit stBusy ∧ t.irqDrq = s.irqDrq ∧ t.written = s.written)

/-- R105, with R156, R157, R172, R173, R175: WRITE_TRACK. -/
def Obligations.WriteTrackResult : Prop :=
  ∀ (flags : BitVec 4) (s : State), s.busy = false →
    StartsTransfer (.writeTrack flags) (0xF#4 ++ flags) s false
      (fun ses => { ses with
        ttrk := s.trk.toNat, tside := s.side.toNat,
        pos := sectorOffset ses.geo s.trk.toNat s.side 0, cnt := ses.geo.spt, st := .format })
      (fun t => t.sts = bit stMotor ||| bit stBusy ∧ t.irqDrq = s.irqDrq ∧ t.written = s.written)

/-! ### Force Interrupt and the unrecognised command -/

/-- R120: FORCE_INT, idle and busy. Everything in flight is cancelled; while busy only BUSY changes in `sts`; while idle the
ready and track-0 pattern is written; no other register and no byte of an image changes. -/
def Obligations.ForceInterruptResult : Prop :=
  ∀ (flags : BitVec 4) (s : State),
    ∃ t, exec (.forceInt flags) s = .next t ∧ t.cmd = 0xD#4 ++ flags ∧
      (s.busy = true → t.sts.getLsbD stBusy = false ∧ ∀ n, n ≠ stBusy → t.sts.getLsbD n = s.sts.getLsbD n) ∧
      (s.busy = false → t.sts = bit stMotor ||| (if s.trk = 0#8 then bit stTrack0 else 0#8)) ∧
      t.spindown = spindownTicks ∧
      t.irqDone = (s.irqDone || irqGate profile .forceInt s.ctl (0xD#4 ++ flags)) ∧
      t.nfCount = 0 ∧ t.seekCount = 0 ∧
      (∀ d, t.drive d = { s.drive d with bound := (t.drive d).bound } ∧
        (∀ ses, (s.drive d).bound = .image ses → (t.drive d).bound = .image { ses with st := .idle }) ∧
        ((s.drive d).bound = .empty → (t.drive d).bound = .empty) ∧
        ((s.drive d).bound = .alt → (t.drive d).bound = .alt)) ∧
      CommandFrame s t ∧ t.trk = s.trk ∧ t.written = s.written ∧ t.stepdir = s.stepdir ∧ t.motorOn = s.motorOn ∧
      t.irqDrq = s.irqDrq ∧ SameImages s t

/-- R122: INVALID. While busy it is ignored whole; while idle it leaves the error status, the motor off, the gated interrupt,
and nothing else. -/
def Obligations.InvalidResult : Prop :=
  ∀ (flags : BitVec 4) (s : State),
    (s.busy = true → exec (.invalid flags) s = .next s) ∧
    (s.busy = false →
      ∃ t, exec (.invalid flags) s = .next t ∧ t.cmd = 0xE#4 ++ flags ∧ t.sts = bit stRnf ∧ t.motorOn = false ∧
        t.spindown = 0 ∧ t.irqDone = (s.irqDone || irqGate profile .badCmd s.ctl (0xE#4 ++ flags)) ∧
        CommandFrame s t ∧ t.trk = s.trk ∧ t.written = s.written ∧ t.stepdir = s.stepdir ∧ t.irqDrq = s.irqDrq ∧
        t.nfCount = s.nfCount ∧ t.seekCount = s.seekCount ∧ (∀ d, t.drive d = s.drive d) ∧ SameImages s t)

/-! ### Host access to the register file -/

/-- R131, R64, D1: `RD STS` returns all eight bits and clears `irq_done`. The seven flags have seven different bits of the
byte in every layout (log 5); wherever the invariant holds, the bit that carries no flag reads 0, which is bit 5 in the spec's
default layout. -/
def Obligations.StatusReadAcknowledges : Prop :=
  (∀ s : State, perform (.read (.chip 0)) s = .next { s with hostRead := s.sts, irqDone := false } ∧
    (s.Sound → ∀ n, isFlag n = false → ∃ t, perform (.read (.chip 0)) s = .next t ∧ t.hostRead.getLsbD n = false)) ∧
  [stBusy, stDrq, stTrack0, stCrc, stRnf, stWprot, stMotor].Nodup ∧
  (∀ n, isFlag n = true ↔ n ∈ [stBusy, stDrq, stTrack0, stCrc, stRnf, stWprot, stMotor]) ∧
  (∀ n, isFlag n = true → n < 8)

/-- R132, R134: `RD TRK` and `RD SEC`. -/
def Obligations.TrackAndSectorReads : Prop :=
  ∀ s : State, perform (.read (.chip 1)) s = .next { s with hostRead := s.trk } ∧
    perform (.read (.chip 2)) s = .next { s with hostRead := s.sec }

/-- R136: `RD DAT`. -/
def Obligations.DataReadAcknowledges : Prop :=
  ∀ s : State, ∃ t, perform (.read (.chip 3)) s = .next t ∧ t.hostRead = s.dat ∧ t.irqDrq = false ∧
    t.sts.getLsbD stDrq = false ∧ (∀ n, n ≠ stDrq → t.sts.getLsbD n = s.sts.getLsbD n) ∧
    t = { s with hostRead := t.hostRead, sts := t.sts, irqDrq := t.irqDrq }

/-- R133, R135: `WR TRK` and `WR SEC`. -/
def Obligations.TrackAndSectorWrites : Prop :=
  ∀ (s : State) (v : Byte), perform (.write (.chip 1) v) s = .next { s with trk := v } ∧
    perform (.write (.chip 2) v) s = .next { s with sec := v }

/-- R137: `WR DAT`. -/
def Obligations.DataWriteArms : Prop :=
  ∀ (s : State) (v : Byte), ∃ t, perform (.write (.chip 3) v) s = .next t ∧ t.dat = v ∧ t.irqDrq = false ∧
    t.written = true ∧ t.sts.getLsbD stDrq = false ∧ (∀ n, n ≠ stDrq → t.sts.getLsbD n = s.sts.getLsbD n) ∧
    t = { s with dat := t.dat, sts := t.sts, irqDrq := t.irqDrq, written := t.written }

/-- R139, R241: `WR CTL`, with and without the soft reset. -/
def Obligations.ControlWriteResult : Prop :=
  ∀ (s : State) (v : Byte), ∃ t, perform (.write .control v) s = .next t ∧
    t.ctl = v ∧ t.drv = driveOf profile v ∧ t.side = sideOf profile v ∧ t.dens = densityOf profile v ∧
    (resetOf profile v = false → t = { s with ctl := t.ctl, drv := t.drv, side := t.side, dens := t.dens }) ∧
    (resetOf profile v = true →
      t.cmd = 0#8 ∧ t.sts = 0#8 ∧ t.written = false ∧ t.irqDone = false ∧ t.irqDrq = false ∧ t.motorOn = false ∧
      t.spindown = 0 ∧ t.nfCount = 0 ∧ t.seekCount = 0 ∧ t.trk = s.trk ∧ t.sec = s.sec ∧ t.dat = s.dat ∧
      t.stepdir = s.stepdir ∧ ∀ d, (t.drive d).wp = (s.drive d).wp ∧ (t.drive d).curtrk = (s.drive d).curtrk ∧
        (∀ ses, (s.drive d).bound = .image ses → (t.drive d).bound = .image { ses with st := .idle }) ∧
        ((s.drive d).bound = .empty → (t.drive d).bound = .empty) ∧
        ((s.drive d).bound = .alt → (t.drive d).bound = .alt))

/-- R140 (which byte is the free value of log 10): a read of CONTROL has no side effect on the block and returns some byte. -/
def Obligations.ControlReadHasNoSideEffect : Prop :=
  ∀ s : State, ∃ b, perform (.read .control) s = .next { s with hostRead := b, freeCount := s.freeCount + 1 }

/-! ### The image backend -/

/-- R177: the divider runs on every poll, in every state, and only its wrap lets the state's step run. -/
def Obligations.DividerThrottles : Prop :=
  ∀ (d : DriveIx) (s : State) (ses : Session), (s.drive d).bound = .image ses →
    (ses.div + 1 < byteDivider → ∃ t, backendPoll d s = .next t ∧
      (t.drive d).bound = .image { ses with div := ses.div + 1 } ∧ t = s.setDrive d (t.drive d) ∧
      (t.drive d).wp = (s.drive d).wp ∧ (t.drive d).curtrk = (s.drive d).curtrk) ∧
    (ses.div + 1 = byteDivider → ses.st = .idle → ∃ t, backendPoll d s = .next t ∧
      (t.drive d).bound = .image { ses with div := 0 } ∧ t = s.setDrive d (t.drive d) ∧
      (t.drive d).wp = (s.drive d).wp ∧ (t.drive d).curtrk = (s.drive d).curtrk)

/-- R173, R179, R202, S4: a failed request ends in not-found on exactly the poll that the countdown and the divider's phase
give. Until then only the divider and the countdown of this drive's session change: no data-ready, no interrupt, no byte of an
image, neither flag nor head of the drive. -/
def Obligations.NotFoundCountdownLength : Prop :=
  ∀ (d : DriveIx) (s : State) (ses : Session), (s.drive d).bound = .image ses → ses.st = .notFound → 1 ≤ ses.cnt →
    ses.div < byteDivider →
    (∀ m, m < byteDivider * ses.cnt - ses.div → polls d m s = .next (s.setSession d { ses with
      div := (ses.div + m) % byteDivider, cnt := ses.cnt - (ses.div + m) / byteDivider })) ∧
    ∃ t, polls d (byteDivider * ses.cnt - ses.div) s = .next t ∧
      (t.drive d).bound = .image { ses with div := 0, cnt := 0, st := .idle } ∧
      t.sts = bit stRnf ∧ t.motorOn = false ∧ t.spindown = 0 ∧
      t.irqDone = (s.irqDone || irqGate profile .notFound s.ctl s.cmd) ∧ t.dat = s.dat ∧ t.irqDrq = s.irqDrq ∧
      t.written = s.written ∧ PollFrame d s t ∧ SameImages s t

/-- R180, R200, R201, R215, S5: a sector read delivers the bytes of the image in file order, one per wrap of the divider,
and ends with `finished` on the last one. -/
def Obligations.ReadDeliversSectorInOrder : Prop :=
  ∀ (d : DriveIx) (s : State) (ses : Session), (s.drive d).bound = .image ses → ses.st = .read →
    ses.div < byteDivider → ses.pos + ses.cnt ≤ ses.size →
    ∀ k, 1 ≤ k → k ≤ ses.cnt →
      ∃ t st', polls d (byteDivider * k - ses.div) s = .next t ∧
        (t.drive d).bound = .image { ses with div := 0, pos := ses.pos + k, cnt := ses.cnt - k, st := st' } ∧
        some t.dat = imageByte s d (ses.pos + (k - 1)) ∧ t.irqDrq = true ∧ t.written = s.written ∧
        t.motorOn = s.motorOn ∧ PollFrame d s t ∧ SameImages s t ∧
        (k < ses.cnt → st' = .read ∧ t.sts = s.sts ||| bit stDrq ∧ t.spindown = s.spindown ∧ t.irqDone = s.irqDone) ∧
        (k = ses.cnt → st' = .idle ∧ t.sts = patDone s.cmd s.trk ∧ t.spindown = spindownTicks ∧
          t.irqDone = (s.irqDone || irqGate profile .finished s.ctl s.cmd))

/-- R181, R182, R186, R206: the divided tick of a WRITE: protected, underrun, a byte stored, the last byte stored. The
store goes to offset `pos[d]` and to no other byte of either image. An underrun changes nothing but the divider. -/
def Obligations.WriteTickCases : Prop :=
  ∀ (d : DriveIx) (s : State) (ses : Session), (s.drive d).bound = .image ses → ses.st = .write →
    ses.div + 1 = byteDivider → ses.img.wf = true → ses.pos < ses.size →
    ((s.drive d).wp = true ∨ ses.swp = true → ∃ t, backendPoll d s = .next t ∧
      (t.drive d).bound = .image { ses with div := 0, st := .idle } ∧ t.sts = bit stWprot ∧ t.motorOn = false ∧
      t.spindown = 0 ∧ t.irqDone = (s.irqDone || irqGate profile .wrProt s.ctl s.cmd) ∧ t.irqDrq = s.irqDrq ∧
      t.dat = s.dat ∧ t.written = s.written ∧ PollFrame d s t ∧ SameImages s t) ∧
    ((s.drive d).wp = false → ses.swp = false → s.written = false →
      backendPoll d s = .next (s.setSession d { ses with div := 0 })) ∧
    ((s.drive d).wp = false → ses.swp = false → s.written = true → ∃ t img' st', backendPoll d s = .next t ∧
      (t.drive d).bound =
        .image { ses with div := 0, img := img', pos := ses.pos + 1, cnt := ses.cnt - 1, st := st' } ∧
      t.written = false ∧ t.dat = s.dat ∧ t.motorOn = s.motorOn ∧ PollFrame d s t ∧
      imageByte t d ses.pos = some s.dat ∧
      (∀ j a, j ≠ d ∨ a ≠ ses.pos → imageByte t j a = imageByte s j a) ∧
      (1 < ses.cnt → st' = .write ∧ t.sts = s.sts ||| bit stDrq ∧ t.irqDrq = true ∧ t.irqDone = s.irqDone ∧
        t.spindown = s.spindown) ∧
      (ses.cnt = 1 → st' = .idle ∧ t.sts = patDone s.cmd s.trk ∧ t.irqDrq = s.irqDrq ∧
        t.spindown = spindownTicks ∧ t.irqDone = (s.irqDone || irqGate profile .finished s.ctl s.cmd)))

/-- R183: the divided tick of an ADDR: the byte of each of the six stages, then `finished` and the pointer's advance. Of a
pointer of 256 or more R183 states no byte: `wideSector` of it, a free value, is the model's choice (log 23). -/
def Obligations.AddressTickCases : Prop :=
  ∀ (d : DriveIx) (s : State) (ses : Session), (s.drive d).bound = .image ses → ses.st = .addr →
    ses.div + 1 = byteDivider →
    (ses.stage < 6 → ∃ t, backendPoll d s = .next t ∧
      (t.drive d).bound = .image { ses with div := 0, stage := ses.stage + 1 } ∧
      (ses.stage = 0 → t.dat.toNat = ses.ttrk % 256) ∧ (ses.stage = 1 → t.dat.toNat = ses.tside % 256) ∧
      (ses.stage = 2 → ses.asec < 256 → t.dat.toNat = ses.asec) ∧
      (ses.stage = 2 → 256 ≤ ses.asec → t.dat = wideSector ses.asec) ∧ (ses.stage = 3 → t.dat = addrRsvd0) ∧
      (ses.stage = 4 → t.dat = addrRsvd1) ∧ (ses.stage = 5 → t.dat = addrRsvd2) ∧
      t.sts = s.sts ||| bit stDrq ∧ t.irqDrq = true ∧ t.irqDone = s.irqDone ∧ t.written = s.written ∧
      t.motorOn = s.motorOn ∧ t.spindown = s.spindown ∧ PollFrame d s t ∧ SameImages s t) ∧
    (ses.stage = 6 → ∃ t, backendPoll d s = .next t ∧
      (t.drive d).bound = .image { ses with div := 0, st := .idle, asec := (ses.asec + 1) % ses.geo.spt } ∧
      t.dat = s.dat ∧ t.sts = patDone s.cmd s.trk ∧ t.spindown = spindownTicks ∧ t.irqDrq = s.irqDrq ∧
      t.irqDone = (s.irqDone || irqGate profile .finished s.ctl s.cmd) ∧ t.written = s.written ∧
      t.motorOn = s.motorOn ∧ PollFrame d s t ∧ SameImages s t)

/-- R184, R186: the divided tick of a FORMAT: protected, or one sector of filler from `pos[d]` and no other byte. -/
def Obligations.FormatTickCases : Prop :=
  ∀ (d : DriveIx) (s : State) (ses : Session), (s.drive d).bound = .image ses → ses.st = .format →
    ses.div + 1 = byteDivider → ses.img.wf = true → ses.pos + ses.geo.secsize ≤ ses.size →
    ((s.drive d).wp = true ∨ ses.swp = true → ∃ t, backendPoll d s = .next t ∧
      (t.drive d).bound = .image { ses with div := 0, st := .idle } ∧ t.sts = bit stWprot ∧ t.motorOn = false ∧
      t.spindown = 0 ∧ t.irqDone = (s.irqDone || irqGate profile .wrProt s.ctl s.cmd) ∧ t.irqDrq = s.irqDrq ∧
      t.dat = s.dat ∧ t.written = s.written ∧ PollFrame d s t ∧ SameImages s t) ∧
    ((s.drive d).wp = false → ses.swp = false → ∃ t img' st', backendPoll d s = .next t ∧
      (t.drive d).bound = .image { ses with
        div := 0, img := img', pos := ses.pos + ses.geo.secsize, cnt := ses.cnt - 1, st := st' } ∧
      (∀ a, ses.pos ≤ a → a < ses.pos + ses.geo.secsize → imageByte t d a = some filler) ∧
      (∀ j a, j ≠ d ∨ a < ses.pos ∨ ses.pos + ses.geo.secsize ≤ a → imageByte t j a = imageByte s j a) ∧
      t.dat = s.dat ∧ t.written = s.written ∧ t.irqDrq = s.irqDrq ∧ t.motorOn = s.motorOn ∧ PollFrame d s t ∧
      (1 < ses.cnt → st' = .format ∧ t.sts = s.sts ∧ t.irqDone = s.irqDone ∧ t.spindown = s.spindown) ∧
      (ses.cnt = 1 → st' = .idle ∧ t.sts = patDone s.cmd s.trk ∧ t.spindown = spindownTicks ∧
        t.irqDone = (s.irqDone || irqGate profile .finished s.ctl s.cmd)))

/-- R185: abort makes the machine idle and changes nothing else; while idle it changes nothing. -/
def Obligations.AbortOnlyIdles : Prop :=
  ∀ (d : DriveIx) (s : State),
    (∀ ses, (s.drive d).bound = .image ses →
      abort d s = s.setDrive d { s.drive d with bound := .image { ses with st := .idle } }) ∧
    (inFlight s d = false → abort d s = s)

/-- R49: a byte stored is read back until the next write there, and no other byte of the image changes. -/
def Obligations.ImageReadAfterWrite : Prop :=
  ∀ (ses : Session) (off : Nat) (b : Byte), ses.img.wf = true → off < ses.size →
    ∃ ses', imgWrite ses off b = some ses' ∧ ses'.img.wf = true ∧ imgRead ses' off = some b ∧
      ∀ a, a ≠ off → imgRead ses' a = imgRead ses a

/-- R50: the offset of a sector in each layout. -/
def Obligations.SectorOffsets : Prop :=
  ∀ (g : Geometry) (t n : Nat),
    (g.sides ≠ .interleaved → sectorOffset g t false n = t * (g.spt * g.secsize) + n * g.secsize) ∧
    (g.sides = .interleaved → sectorOffset g t false n = 2 * t * (g.spt * g.secsize) + n * g.secsize) ∧
    (g.sides = .sequential → sectorOffset g t true n = (t + g.tracks) * (g.spt * g.secsize) + n * g.secsize) ∧
    (g.sides = .interleaved → sectorOffset g t true n = (2 * t + 1) * (g.spt * g.secsize) + n * g.secsize)

/-- R47: every sector that the guards let through lies inside the image. -/
def Obligations.GuardedSectorsInsideImage : Prop :=
  ∀ (s : State) (ses : Session), ses.geo.wf = true → GuardsPass s ses true →
    sectorOffset ses.geo s.trk.toNat s.side s.sec.toNat + ses.geo.secsize ≤ ses.size

/-! ### The dispatch layer's countdowns and the motor -/

/-- R158, R230, D23, D34: a Tick polls drive 0's backend, then drive 1's, whatever drive is selected; then the dispatch
countdown, the seek countdown and the motor timer take their step, in this order. -/
def Obligations.TickPollsBothDrives : Prop :=
  ∀ s u v : State, backendPoll .d0 s = .next u → backendPoll .d1 u = .next v →
    perform .tick s = .next (motorStep (seekStep (nfStep v)))

/-- R157, R158, R202: the dispatch countdown falls by one per Tick and ends in not-found, with no operation of a backend
running. -/
def Obligations.DispatchCountdownEnds : Prop :=
  ∀ s : State, inFlight s .d0 = false → inFlight s .d1 = false → s.seekCount = 0 → 0 < s.nfCount →
    ∃ t, tick s = .next t ∧ t.nfCount = s.nfCount - 1 ∧ t.dat = s.dat ∧ t.irqDrq = s.irqDrq ∧
      (1 < s.nfCount → t.irqDone = s.irqDone ∧ t.sts.getLsbD stBusy = s.sts.getLsbD stBusy) ∧
      (s.nfCount = 1 → t.sts = bit stRnf ∧ t.motorOn = false ∧ t.spindown = 0 ∧
        t.irqDone = (s.irqDone || irqGate profile .notFound s.ctl s.cmd))

/-- R89, R158, R201, R230: a positioning command ends on the Tick that spends `seek_count`: the status is `MOTOR` with the
track-0 term, the spin-down restarts and has counted that Tick, and the completion is gated. -/
def Obligations.PositioningEnds : Prop :=
  ∀ s : State, inFlight s .d0 = false → inFlight s .d1 = false → s.nfCount = 0 → 0 < s.seekCount →
    (opOf s.cmd).toNat ≤ 7 →
    ∃ t, tick s = .next t ∧ t.seekCount = s.seekCount - 1 ∧ t.trk = s.trk ∧ t.cmd = s.cmd ∧
      (∀ d, (t.drive d).curtrk = (s.drive d).curtrk) ∧
      (1 < s.seekCount → t.irqDone = s.irqDone ∧ t.sts.getLsbD stBusy = s.sts.getLsbD stBusy) ∧
      (s.seekCount = 1 → t.sts = bit stMotor ||| (if s.trk = 0#8 then bit stTrack0 else 0#8) ∧
        t.spindown = spindownTicks - 1 ∧ t.irqDone = (s.irqDone || irqGate profile .finished s.ctl s.cmd))

/-- R223: the motor timer's step. -/
def Obligations.MotorTimerStep : Prop :=
  ∀ s : State,
    (s.spindown = 0 → motorStep s = s) ∧
    (1 < s.spindown → motorStep s = { s with spindown := s.spindown - 1 }) ∧
    (s.spindown = 1 → ∃ t, motorStep s = t ∧ t = { s with spindown := 0, motorOn := false, sts := t.sts } ∧
      t.sts.getLsbD stMotor = false ∧ ∀ n, n ≠ stMotor → t.sts.getLsbD n = s.sts.getLsbD n)

/-- R203, R204, R217: the two CRC callbacks, which only an alternate backend calls (log 14). -/
def Obligations.CrcCallbacks : Prop :=
  ∀ (d : DriveIx) (s : State), (s.drive d).bound = .alt →
    (∃ t, perform (.altCallback d .dataCrcError) s = .next t ∧ t.sts = bit stCrc ∧ t.motorOn = false ∧
      t.spindown = 0 ∧ t.irqDone = (s.irqDone || irqGate profile .dataCrc s.ctl s.cmd) ∧
      t = { s with sts := t.sts, motorOn := t.motorOn, spindown := t.spindown, irqDone := t.irqDone }) ∧
    (∃ t, perform (.altCallback d .headerCrcError) s = .next t ∧ t.sts = bit stCrc ||| bit stRnf ∧
      t.motorOn = false ∧ t.spindown = 0 ∧ t.irqDone = (s.irqDone || irqGate profile .headCrc s.ctl s.cmd) ∧
      t = { s with sts := t.sts, motorOn := t.motorOn, spindown := t.spindown, irqDone := t.irqDone })

/-! ### The environment -/

/-- R160, R46, R47, R162: BIND gives a fresh session that holds the bytes and leaves `wp[d]`, `curtrk[d]` and all else; it is
refused by name in flight, for a bad geometry, for an image of another length. -/
def Obligations.BindResult : Prop :=
  ∀ (d : DriveIx) (g : Geometry) (bytes : List Byte) (ro : Bool) (s : State),
    (inFlight s d = true → perform (.bind d g bytes ro) s = .refused .operationInFlight) ∧
    (inFlight s d = false → g.wf = false → perform (.bind d g bytes ro) s = .refused .badGeometry) ∧
    (inFlight s d = false → g.wf = true → bytes.length ≠ g.totalSectors * g.secsize →
      perform (.bind d g bytes ro) s = .refused .imageLength) ∧
    (inFlight s d = false → g.wf = true → bytes.length = g.totalSectors * g.secsize →
      ∃ t ses, perform (.bind d g bytes ro) s = .next t ∧ (t.drive d).bound = .image ses ∧ ses.geo = g ∧
        ses.swp = ro ∧ ses.st = .idle ∧ ses.cnt = 0 ∧ ses.stage = 0 ∧ ses.pos = 0 ∧ ses.div = 0 ∧ ses.asec = 0 ∧
        ses.ttrk = 0 ∧ ses.tside = 0 ∧ ses.tsec = 0 ∧ (∀ a, imageByte t d a = bytes[a]?) ∧
        t = s.setDrive d { s.drive d with bound := .image ses })

/-- R161, R163: CLOSE ends the session, WPROT writes the flag, and neither changes anything else. -/
def Obligations.CloseAndProtect : Prop :=
  ∀ (d : DriveIx) (s : State) (b : Bool),
    (inFlight s d = false → perform (.close d) s = .next (s.setDrive d { s.drive d with bound := .empty })) ∧
    (inFlight s d = true → perform (.close d) s = .refused .operationInFlight) ∧
    perform (.wprot d b) s = .next (s.setDrive d { s.drive d with wp := b })

/-- R240: what a machine reset clears and what it keeps; the direction becomes the open `STEPDIR_RESET` (log 2). -/
def Obligations.MachineResetResult : Prop :=
  ∀ s : State, ∃ t, perform .reset s = .next t ∧
    t.cmd = 0#8 ∧ t.trk = 0#8 ∧ t.sec = 0#8 ∧ t.dat = 0#8 ∧ t.sts = 0#8 ∧ t.ctl = 0#8 ∧ t.side = false ∧
    t.dens = false ∧ t.drv = .d0 ∧ t.stepdir = stepdirReset ∧ t.written = false ∧ t.motorOn = false ∧
    t.spindown = 0 ∧ t.irqDone = false ∧ t.irqDrq = false ∧ t.nfCount = 0 ∧ t.seekCount = 0 ∧
    (∀ d, (t.drive d).wp = (s.drive d).wp ∧ (t.drive d).curtrk = (s.drive d).curtrk ∧
      (∀ ses, (s.drive d).bound = .image ses → (t.drive d).bound = .image { ses with st := .idle }) ∧
      ((s.drive d).bound = .empty → (t.drive d).bound = .empty) ∧
      ((s.drive d).bound = .alt → (t.drive d).bound = .alt)) ∧ SameImages s t

/-- R240, R242: what startup leaves: the registers, the drives, the line low, the controller idle; the direction is the open
`STEPDIR_RESET` (log 2). -/
def Obligations.StartupValues : Prop :=
  State.reset.cmd = 0#8 ∧ State.reset.trk = 0#8 ∧ State.reset.sec = 0#8 ∧ State.reset.dat = 0#8 ∧
  State.reset.sts = 0#8 ∧ State.reset.ctl = 0#8 ∧ State.reset.side = false ∧ State.reset.dens = false ∧
  State.reset.drv = .d0 ∧ State.reset.stepdir = stepdirReset ∧ State.reset.written = false ∧
  State.reset.motorOn = false ∧ State.reset.spindown = 0 ∧ State.reset.irqDone = false ∧
  State.reset.irqDrq = false ∧ State.reset.nfCount = 0 ∧ State.reset.seekCount = 0 ∧
  (∀ d, State.reset.drive d = { wp := false, curtrk := 0, bound := .empty }) ∧
  State.reset.busy = false ∧ State.reset.irqLine = false

/-! ### Rules of the whole machine -/

/-- R135: `sec` changes only when the host writes it or the machine is reset. -/
def Obligations.SectorRegisterHostOnly : Prop :=
  ∀ s t : State, step s = .next t → t.sec ≠ s.sec →
    (∃ v, (nextAction s).1 = .write (.chip 2) v) ∨ (nextAction s).1 = .reset

/-- R212: `irq_done` falls only by `RD STS` and by a reset. -/
def Obligations.CompletionLatchClearedOnly : Prop :=
  ∀ s t : State, step s = .next t → s.irqDone = true → t.irqDone = false →
    (nextAction s).1 = .read (.chip 0) ∨ (nextAction s).1 = .reset ∨
    ∃ v, (nextAction s).1 = .write .control v ∧ resetOf profile v = true

/-- R211: `irq_drq` falls only by `WR DAT`, `RD DAT` and by a reset. -/
def Obligations.DataRequestClearedOnly : Prop :=
  ∀ s t : State, step s = .next t → s.irqDrq = true → t.irqDrq = false →
    (nextAction s).1 = .read (.chip 3) ∨ (∃ v, (nextAction s).1 = .write (.chip 3) v) ∨
    (nextAction s).1 = .reset ∨ ∃ v, (nextAction s).1 = .write .control v ∧ resetOf profile v = true

/-- R225: busy is entered only by an accepted command of the positioning or transfer classes. -/
def Obligations.BusyEnteredOnlyByCommand : Prop :=
  ∀ s t : State, step s = .next t → s.busy = false → t.busy = true →
    ∃ v, (nextAction s).1 = .write (.chip 0) v ∧ opOf v ≠ 0xD#4 ∧ opOf v ≠ 0xE#4

/-- R40, R49: no host access changes a byte of an image. -/
def Obligations.HostAccessKeepsImages : Prop :=
  ∀ (s t : State) (tg : Target) (v : Byte),
    (perform (.read tg) s = .next t → SameImages s t) ∧ (perform (.write tg v) s = .next t → SameImages s t)

/-- R51, R186: a Tick changes no byte of the image of a drive that is protected by its own flag or by its session's. -/
def Obligations.ProtectedImageKept : Prop :=
  ∀ (s t : State) (d : DriveIx),
    ((s.drive d).wp = true ∨ ∃ ses, (s.drive d).bound = .image ses ∧ ses.swp = true) → tick s = .next t → ∀ a, imageByte t d a = imageByte s d a

/-- R28, R29: a session keeps its geometry and its write-protect flag until the environment rebinds or closes its drive. -/
def Obligations.SessionConstants : Prop :=
  ∀ (s t : State) (d : DriveIx) (ses : Session), step s = .next t → (s.drive d).bound = .image ses →
    (∃ ses', (t.drive d).bound = .image ses' ∧ ses'.geo = ses.geo ∧ ses'.swp = ses.swp) ∨
    (∃ g bytes ro, (nextAction s).1 = .bind d g bytes ro) ∨ (nextAction s).1 = .close d

/-- R55, R254: a write of `trk`, of `sec`, of `dat`, or of the control register without the reset trigger leaves both drives and both
countdowns, and so the operation in flight, as they are. -/
def Obligations.RegisterWritesKeepOperation : Prop :=
  ∀ (s t : State) (tg : Target) (v : Byte), perform (.write tg v) s = .next t → tg ≠ .chip 0 →
    (tg = .control → resetOf profile v = false) →
    (∀ d, t.drive d = s.drive d) ∧ t.nfCount = s.nfCount ∧ t.seekCount = s.seekCount ∧ t.busy = s.busy ∧ t.cmd = s.cmd

/-! ### Invariants -/

/-- The invariants hold at reset. -/
def Obligations.InvariantsAtReset : Prop :=
  State.reset.Sound ∧ State.reset.OneInFlight ∧ State.reset.NoAlternate ∧ State.reset.MotorTimed

/-- Every step keeps the invariant: the bit of `sts` that carries no flag clear, counters in their ranges, images canonical and inside their length,
every running operation inside its image (R20, R31, R33, R34, R46, R47, R64). -/
def Obligations.StepKeepsSound : Prop := ∀ s t : State, s.Sound → step s = .next t → t.Sound

/-- R47, R208: from a state of the invariant no step faults: every offset a transfer reaches is inside the image. -/
def Obligations.StepNeverFaults : Prop := ∀ (s : State) (f : Fault), s.Sound → step s ≠ .fault f

/-- R37: one operation in flight while busy and none while idle. Every step keeps it, and keeps that no drive is bound to the
alternate backend, from a state where none is (the model binds none: log 14). In a state where one is, which no run reaches,
every step but that backend's own callback keeps it (R217; that it may call at any time is the model's choice of log 14). -/
def Obligations.StepKeepsOneInFlight : Prop :=
  ∀ s t : State, s.OneInFlight → step s = .next t →
    (s.NoAlternate → t.OneInFlight ∧ t.NoAlternate) ∧ (s.NoAltCallback → t.OneInFlight)

/-- R37: "in every state reachable from reset": after any number of steps on any queue of actions, one operation is in flight
while busy and none while idle. And no drive is bound to the alternate backend, since the model refuses to bind one: read
from R151 and D31, "a model refuses a drive so bound" (DEDUCED, log 14). -/
def Obligations.ReachableOneInFlight : Prop :=
  ∀ (queue : List Action) (n : Nat) (t : State), steps n { State.reset with inbox := queue } = .next t →
    t.OneInFlight ∧ t.NoAlternate

/-- R220 to R223, C2: a running motor, and a set MOTOR flag, always has a countdown that will end it. -/
def Obligations.StepKeepsMotorTimed : Prop := ∀ s t : State, s.MotorTimed → step s = .next t → t.MotorTimed
end

