-- ==== Sys2Proof/Laws/Flags.lean ====
section
/-!
SUPPORT. The bits of the status byte, one by one, in every layout (R64, R65, D1).
-/

namespace Sys2Proof.Machine

/-! ### The layout -/

/-- The layout is one of D1's, whatever the open constant is (log 5). -/
theorem isLayout_statusLayout : isLayout statusLayout = true := by
  unfold statusLayout
  split
  · assumption
  · decide

/-- The seven indices are pairwise distinct (D1). -/
theorem flags_nodup : [stBusy, stDrq, stTrack0, stCrc, stRnf, stWprot, stMotor].Nodup := by
  have h := isLayout_statusLayout
  simp only [isLayout, Bool.and_eq_true, decide_eq_true_eq] at h
  exact h.2

/-- The seven indices are bits of a byte (R64). -/
theorem flags_lt : stBusy < 8 ∧ stDrq < 8 ∧ stTrack0 < 8 ∧ stCrc < 8 ∧ stRnf < 8 ∧ stWprot < 8 ∧ stMotor < 8 := by
  have h := isLayout_statusLayout
  simp only [isLayout, flagPositions, Bool.and_eq_true, List.all_cons, decide_eq_true_eq, List.all_nil, and_true] at h
  exact h.1

/-- Each index is none of the other six. -/
@[simp] theorem stBusy_ne :
    stBusy ≠ stDrq ∧ stBusy ≠ stTrack0 ∧ stBusy ≠ stCrc ∧ stBusy ≠ stRnf ∧ stBusy ≠ stWprot ∧ stBusy ≠ stMotor := by
  have h := flags_nodup
  simp only [List.nodup_cons, List.mem_cons, not_or] at h
  tauto
@[simp] theorem stDrq_ne :
    stDrq ≠ stBusy ∧ stDrq ≠ stTrack0 ∧ stDrq ≠ stCrc ∧ stDrq ≠ stRnf ∧ stDrq ≠ stWprot ∧ stDrq ≠ stMotor := by
  have h := flags_nodup
  simp only [List.nodup_cons, List.mem_cons, not_or] at h
  tauto
@[simp] theorem stTrack0_ne :
    stTrack0 ≠ stBusy ∧ stTrack0 ≠ stDrq ∧ stTrack0 ≠ stCrc ∧ stTrack0 ≠ stRnf ∧ stTrack0 ≠ stWprot ∧ stTrack0 ≠ stMotor := by
  have h := flags_nodup
  simp only [List.nodup_cons, List.mem_cons, not_or] at h
  tauto
@[simp] theorem stCrc_ne :
    stCrc ≠ stBusy ∧ stCrc ≠ stDrq ∧ stCrc ≠ stTrack0 ∧ stCrc ≠ stRnf ∧ stCrc ≠ stWprot ∧ stCrc ≠ stMotor := by
  have h := flags_nodup
  simp only [List.nodup_cons, List.mem_cons, not_or] at h
  tauto
@[simp] theorem stRnf_ne :
    stRnf ≠ stBusy ∧ stRnf ≠ stDrq ∧ stRnf ≠ stTrack0 ∧ stRnf ≠ stCrc ∧ stRnf ≠ stWprot ∧ stRnf ≠ stMotor := by
  have h := flags_nodup
  simp only [List.nodup_cons, List.mem_cons, not_or] at h
  tauto
@[simp] theorem stWprot_ne :
    stWprot ≠ stBusy ∧ stWprot ≠ stDrq ∧ stWprot ≠ stTrack0 ∧ stWprot ≠ stCrc ∧ stWprot ≠ stRnf ∧ stWprot ≠ stMotor := by
  have h := flags_nodup
  simp only [List.nodup_cons, List.mem_cons, not_or] at h
  tauto
@[simp] theorem stMotor_ne :
    stMotor ≠ stBusy ∧ stMotor ≠ stDrq ∧ stMotor ≠ stTrack0 ∧ stMotor ≠ stCrc ∧ stMotor ≠ stRnf ∧ stMotor ≠ stWprot := by
  have h := flags_nodup
  simp only [List.nodup_cons, List.mem_cons, not_or] at h
  tauto

/-- A bit that carries no flag is none of the seven. -/
theorem not_flag {n : Nat} (h : isFlag n = false) :
    n ≠ stBusy ∧ n ≠ stDrq ∧ n ≠ stTrack0 ∧ n ≠ stCrc ∧ n ≠ stRnf ∧ n ≠ stWprot ∧ n ≠ stMotor := by
  unfold isFlag flagPositions at h
  simp only [List.contains_eq_mem, decide_eq_false_iff_not, List.mem_cons, not_or, List.not_mem_nil, not_false_eq_true,
    and_true] at h
  exact h

/-! ### Bits -/

/-- `bit(n)` has bit `n` and no other (R6). -/
theorem getLsbD_bit (n i : Nat) : (bit n).getLsbD i = (decide (i < 8) && decide (i = n)) := by
  simp only [bit, BitVec.getLsbD_shiftLeft, BitVec.getLsbD_one]
  rw [Bool.eq_iff_iff]
  simp only [Bool.and_eq_true, decide_eq_true_eq, Bool.not_eq_true', decide_eq_false_iff_not]
  omega

/-- Setting bit `n` changes no other bit (R6). -/
@[simp] theorem getLsbD_setBit (v : Byte) (n i : Nat) :
    (setBit v n).getLsbD i = (v.getLsbD i || (decide (i < 8) && decide (i = n))) := by
  simp [setBit, getLsbD_bit]

/-- Clearing bit `n` changes no other bit (R6). -/
@[simp] theorem getLsbD_clearBit (v : Byte) (n i : Nat) :
    (clearBit v n).getLsbD i = (v.getLsbD i && decide (i ≠ n)) := by
  simp only [clearBit, BitVec.getLsbD_and, BitVec.getLsbD_not, getLsbD_bit]
  by_cases h : i < 8
  · by_cases hn : i = n <;> simp [h, hn]
  · rw [BitVec.getLsbD_of_ge v i (by omega)]; simp

/-- The controller is busy exactly when its flag is set (R225). -/
theorem busy_eq (s : State) : s.busy = s.sts.getLsbD stBusy := by
  unfold State.busy
  by_cases h : s.sts = 0#8 <;> simp [h]

/-! ### Patterns -/

/-- `bit(n)` for a place in the byte. -/
theorem getLsbD_bit_lt {n i : Nat} (h : n < 8) : (bit n).getLsbD i = decide (i = n) := by
  rw [getLsbD_bit]
  by_cases hi : i = n
  · subst hi; simp [h]
  · simp [hi]

/-- The flags in a byte, one by one. -/
@[simp] theorem bit_flags (i : Nat) :
    (bit stBusy).getLsbD i = decide (i = stBusy) ∧ (bit stDrq).getLsbD i = decide (i = stDrq) ∧
    (bit stTrack0).getLsbD i = decide (i = stTrack0) ∧ (bit stCrc).getLsbD i = decide (i = stCrc) ∧
    (bit stRnf).getLsbD i = decide (i = stRnf) ∧ (bit stWprot).getLsbD i = decide (i = stWprot) ∧
    (bit stMotor).getLsbD i = decide (i = stMotor) := by
  refine ⟨?_, ?_, ?_, ?_, ?_, ?_, ?_⟩ <;> exact getLsbD_bit_lt (by simp [flags_lt])

/-- A bit that carries no flag is set by no pattern (R64, R65). -/
theorem unused_patPosition (trk : Byte) {n : Nat} (h : isFlag n = false) : (patPosition trk).getLsbD n = false := by
  have := not_flag h
  unfold patPosition trackZero; split_ifs <;> simp [this]
theorem unused_patIdle (trk : Byte) {n : Nat} (h : isFlag n = false) : (patIdle trk).getLsbD n = false := by
  have := not_flag h
  unfold patIdle trackZero; split_ifs <;> simp [this]
theorem unused_patDone (cmd trk : Byte) {n : Nat} (h : isFlag n = false) : (patDone cmd trk).getLsbD n = false := by
  have := not_flag h
  unfold patDone trackZero; split_ifs <;> simp [this]
theorem unused_patTransfer {n : Nat} (h : isFlag n = false) : patTransfer.getLsbD n = false := by
  have := not_flag h
  unfold patTransfer; simp [this]
theorem unused_patNotFound {n : Nat} (h : isFlag n = false) : patNotFound.getLsbD n = false := by
  have := not_flag h
  unfold patNotFound; simp [this]
theorem unused_patDataCrc {n : Nat} (h : isFlag n = false) : patDataCrc.getLsbD n = false := by
  have := not_flag h
  unfold patDataCrc; simp [this]
theorem unused_patHeadCrc {n : Nat} (h : isFlag n = false) : patHeadCrc.getLsbD n = false := by
  have := not_flag h
  unfold patHeadCrc; simp [this]
theorem unused_patWrProt {n : Nat} (h : isFlag n = false) : patWrProt.getLsbD n = false := by
  have := not_flag h
  unfold patWrProt; simp [this]

/-- BUSY of each pattern (R65). -/
@[simp] theorem busy_patPosition (trk : Byte) : (patPosition trk).getLsbD stBusy = true := by
  unfold patPosition trackZero; split_ifs <;> simp
@[simp] theorem busy_patIdle (trk : Byte) : (patIdle trk).getLsbD stBusy = false := by
  unfold patIdle trackZero; split_ifs <;> simp
@[simp] theorem busy_patDone (cmd trk : Byte) : (patDone cmd trk).getLsbD stBusy = false := by
  unfold patDone trackZero; split_ifs <;> simp
@[simp] theorem busy_patTransfer : patTransfer.getLsbD stBusy = true := by
  unfold patTransfer; simp
@[simp] theorem busy_patNotFound : patNotFound.getLsbD stBusy = false := by
  unfold patNotFound; simp
@[simp] theorem busy_patDataCrc : patDataCrc.getLsbD stBusy = false := by
  unfold patDataCrc; simp
@[simp] theorem busy_patHeadCrc : patHeadCrc.getLsbD stBusy = false := by
  unfold patHeadCrc; simp
@[simp] theorem busy_patWrProt : patWrProt.getLsbD stBusy = false := by
  unfold patWrProt; simp

/-- The pattern of an armed write, flag by flag (R65, R102). -/
theorem patWrite_eq : patWrite = bit stMotor ||| bit stBusy ||| bit stDrq := rfl
@[simp] theorem busy_patWrite : patWrite.getLsbD stBusy = true := by unfold patWrite; simp
theorem unused_patWrite {n : Nat} (h : isFlag n = false) : patWrite.getLsbD n = false := by
  have := not_flag h
  rw [patWrite_eq]; simp [this]

/-- The MOTOR flag of each error pattern (R65, R222). -/
@[simp] theorem motor_patNotFound : patNotFound.getLsbD stMotor = false := by unfold patNotFound; simp
@[simp] theorem motor_patDataCrc : patDataCrc.getLsbD stMotor = false := by unfold patDataCrc; simp
@[simp] theorem motor_patHeadCrc : patHeadCrc.getLsbD stMotor = false := by unfold patHeadCrc; simp
@[simp] theorem motor_patWrProt : patWrProt.getLsbD stMotor = false := by unfold patWrProt; simp

/-- Setting DRQ and clearing a flag keep a bit that carries none clear (R64). -/
theorem unused_setDrq {v : Byte} {n : Nat} (h : isFlag n = false) (hv : v.getLsbD n = false) :
    (setBit v stDrq).getLsbD n = false := by
  have := not_flag h
  simp [hv, this]
theorem unused_clearBit {v : Byte} {n m : Nat} (hv : v.getLsbD n = false) : (clearBit v m).getLsbD n = false := by
  simp [hv]

/-- Clearing a flag that is not set changes nothing; so it is with MOTOR of an error pattern (R65, R222). -/
theorem clearBit_of_clear {v : Byte} {n : Nat} (h : v.getLsbD n = false) : clearBit v n = v := by
  apply BitVec.eq_of_getLsbD_eq
  intro i _
  rw [getLsbD_clearBit]
  by_cases hi : i = n
  · subst hi; simp [h]
  · simp [hi]
@[simp] theorem clearMotor_patNotFound : clearBit patNotFound stMotor = patNotFound :=
  clearBit_of_clear (by unfold patNotFound; simp)
@[simp] theorem clearMotor_patDataCrc : clearBit patDataCrc stMotor = patDataCrc :=
  clearBit_of_clear (by unfold patDataCrc; simp)
@[simp] theorem clearMotor_patHeadCrc : clearBit patHeadCrc stMotor = patHeadCrc :=
  clearBit_of_clear (by unfold patHeadCrc; simp)
@[simp] theorem clearMotor_patWrProt : clearBit patWrProt stMotor = patWrProt :=
  clearBit_of_clear (by unfold patWrProt; simp)

/-- The values of the column "default" of R64 and R65: what the patterns are where the layout is the spec's default. -/
theorem patterns_default (h : statusLayout = defaultLayout) (trk cmd : Byte) :
    patPosition trk = (if trk = 0#8 then 0x85#8 else 0x81#8) ∧ patTransfer = 0x81#8 ∧ patWrite = 0x83#8 ∧
    patIdle trk = (if trk = 0#8 then 0x84#8 else 0x80#8) ∧
    patDone cmd trk = (if isPositioning cmd = true ∧ trk = 0#8 then 0x84#8 else 0x80#8) ∧
    patNotFound = 0x10#8 ∧ patDataCrc = 0x08#8 ∧ patHeadCrc = 0x18#8 ∧ patWrProt = 0x40#8 := by
  simp only [patPosition, patTransfer, patWrite, patIdle, patDone, patNotFound, patDataCrc, patHeadCrc, patWrProt, trackZero,
    setBit, stBusy, stDrq, stTrack0, stCrc, stRnf, stWprot, stMotor, h, defaultLayout]
  refine ⟨?_, by decide, by decide, ?_, ?_, by decide, by decide, by decide, by decide⟩
  · split <;> decide
  · split <;> decide
  · by_cases ht : trk = 0#8 <;> cases isPositioning cmd <;> simp [ht] <;> decide

end Sys2Proof.Machine
end

