-- ==== Sys2Proof/Laws/State.lean ====
section
/-!
SUPPORT. What each update of the state does to each field: one lemma per field per update, true by rfl, so that no later proof
unfolds a record update. Drives are read through `State.drive`.
-/

namespace Sys2Proof.Machine

/-! ### `spinUp` (R81) -/

@[simp] theorem spinUp_cmd (s : State) : (spinUp s).cmd = s.cmd := rfl
@[simp] theorem spinUp_trk (s : State) : (spinUp s).trk = s.trk := rfl
@[simp] theorem spinUp_sec (s : State) : (spinUp s).sec = s.sec := rfl
@[simp] theorem spinUp_dat (s : State) : (spinUp s).dat = s.dat := rfl
@[simp] theorem spinUp_sts (s : State) : (spinUp s).sts = setBit s.sts stMotor := rfl
@[simp] theorem spinUp_ctl (s : State) : (spinUp s).ctl = s.ctl := rfl
@[simp] theorem spinUp_side (s : State) : (spinUp s).side = s.side := rfl
@[simp] theorem spinUp_dens (s : State) : (spinUp s).dens = s.dens := rfl
@[simp] theorem spinUp_drv (s : State) : (spinUp s).drv = s.drv := rfl
@[simp] theorem spinUp_stepdir (s : State) : (spinUp s).stepdir = s.stepdir := rfl
@[simp] theorem spinUp_written (s : State) : (spinUp s).written = s.written := rfl
@[simp] theorem spinUp_motorOn (s : State) : (spinUp s).motorOn = true := rfl
@[simp] theorem spinUp_spindown (s : State) : (spinUp s).spindown = spindownTicks := rfl
@[simp] theorem spinUp_irqDone (s : State) : (spinUp s).irqDone = s.irqDone := rfl
@[simp] theorem spinUp_irqDrq (s : State) : (spinUp s).irqDrq = s.irqDrq := rfl
@[simp] theorem spinUp_nfCount (s : State) : (spinUp s).nfCount = s.nfCount := rfl
@[simp] theorem spinUp_seekCount (s : State) : (spinUp s).seekCount = s.seekCount := rfl
@[simp] theorem spinUp_inbox (s : State) : (spinUp s).inbox = s.inbox := rfl
@[simp] theorem spinUp_hostRead (s : State) : (spinUp s).hostRead = s.hostRead := rfl
@[simp] theorem spinUp_freeCount (s : State) : (spinUp s).freeCount = s.freeCount := rfl
@[simp] theorem spinUp_drive (s : State) (j : DriveIx) : (spinUp s).drive j = s.drive j := rfl

/-! ### `startSpinDown` (R221) -/

@[simp] theorem startSpinDown_cmd (s : State) : (startSpinDown s).cmd = s.cmd := rfl
@[simp] theorem startSpinDown_trk (s : State) : (startSpinDown s).trk = s.trk := rfl
@[simp] theorem startSpinDown_sec (s : State) : (startSpinDown s).sec = s.sec := rfl
@[simp] theorem startSpinDown_dat (s : State) : (startSpinDown s).dat = s.dat := rfl
@[simp] theorem startSpinDown_sts (s : State) : (startSpinDown s).sts = s.sts := rfl
@[simp] theorem startSpinDown_ctl (s : State) : (startSpinDown s).ctl = s.ctl := rfl
@[simp] theorem startSpinDown_side (s : State) : (startSpinDown s).side = s.side := rfl
@[simp] theorem startSpinDown_dens (s : State) : (startSpinDown s).dens = s.dens := rfl
@[simp] theorem startSpinDown_drv (s : State) : (startSpinDown s).drv = s.drv := rfl
@[simp] theorem startSpinDown_stepdir (s : State) : (startSpinDown s).stepdir = s.stepdir := rfl
@[simp] theorem startSpinDown_written (s : State) : (startSpinDown s).written = s.written := rfl
@[simp] theorem startSpinDown_motorOn (s : State) : (startSpinDown s).motorOn = s.motorOn := rfl
@[simp] theorem startSpinDown_spindown (s : State) : (startSpinDown s).spindown = spindownTicks := rfl
@[simp] theorem startSpinDown_irqDone (s : State) : (startSpinDown s).irqDone = s.irqDone := rfl
@[simp] theorem startSpinDown_irqDrq (s : State) : (startSpinDown s).irqDrq = s.irqDrq := rfl
@[simp] theorem startSpinDown_nfCount (s : State) : (startSpinDown s).nfCount = s.nfCount := rfl
@[simp] theorem startSpinDown_seekCount (s : State) : (startSpinDown s).seekCount = s.seekCount := rfl
@[simp] theorem startSpinDown_inbox (s : State) : (startSpinDown s).inbox = s.inbox := rfl
@[simp] theorem startSpinDown_hostRead (s : State) : (startSpinDown s).hostRead = s.hostRead := rfl
@[simp] theorem startSpinDown_freeCount (s : State) : (startSpinDown s).freeCount = s.freeCount := rfl
@[simp] theorem startSpinDown_drive (s : State) (j : DriveIx) : (startSpinDown s).drive j = s.drive j := rfl

/-! ### `spinDownNow` (R222) -/

@[simp] theorem spinDownNow_cmd (s : State) : (spinDownNow s).cmd = s.cmd := rfl
@[simp] theorem spinDownNow_trk (s : State) : (spinDownNow s).trk = s.trk := rfl
@[simp] theorem spinDownNow_sec (s : State) : (spinDownNow s).sec = s.sec := rfl
@[simp] theorem spinDownNow_dat (s : State) : (spinDownNow s).dat = s.dat := rfl
@[simp] theorem spinDownNow_sts (s : State) : (spinDownNow s).sts = clearBit s.sts stMotor := rfl
@[simp] theorem spinDownNow_ctl (s : State) : (spinDownNow s).ctl = s.ctl := rfl
@[simp] theorem spinDownNow_side (s : State) : (spinDownNow s).side = s.side := rfl
@[simp] theorem spinDownNow_dens (s : State) : (spinDownNow s).dens = s.dens := rfl
@[simp] theorem spinDownNow_drv (s : State) : (spinDownNow s).drv = s.drv := rfl
@[simp] theorem spinDownNow_stepdir (s : State) : (spinDownNow s).stepdir = s.stepdir := rfl
@[simp] theorem spinDownNow_written (s : State) : (spinDownNow s).written = s.written := rfl
@[simp] theorem spinDownNow_motorOn (s : State) : (spinDownNow s).motorOn = false := rfl
@[simp] theorem spinDownNow_spindown (s : State) : (spinDownNow s).spindown = 0 := rfl
@[simp] theorem spinDownNow_irqDone (s : State) : (spinDownNow s).irqDone = s.irqDone := rfl
@[simp] theorem spinDownNow_irqDrq (s : State) : (spinDownNow s).irqDrq = s.irqDrq := rfl
@[simp] theorem spinDownNow_nfCount (s : State) : (spinDownNow s).nfCount = s.nfCount := rfl
@[simp] theorem spinDownNow_seekCount (s : State) : (spinDownNow s).seekCount = s.seekCount := rfl
@[simp] theorem spinDownNow_inbox (s : State) : (spinDownNow s).inbox = s.inbox := rfl
@[simp] theorem spinDownNow_hostRead (s : State) : (spinDownNow s).hostRead = s.hostRead := rfl
@[simp] theorem spinDownNow_freeCount (s : State) : (spinDownNow s).freeCount = s.freeCount := rfl
@[simp] theorem spinDownNow_drive (s : State) (j : DriveIx) : (spinDownNow s).drive j = s.drive j := rfl

/-! ### `raiseDone` (R212) -/

@[simp] theorem raiseDone_cmd (e : Event) (s : State) : (raiseDone e s).cmd = s.cmd := rfl
@[simp] theorem raiseDone_trk (e : Event) (s : State) : (raiseDone e s).trk = s.trk := rfl
@[simp] theorem raiseDone_sec (e : Event) (s : State) : (raiseDone e s).sec = s.sec := rfl
@[simp] theorem raiseDone_dat (e : Event) (s : State) : (raiseDone e s).dat = s.dat := rfl
@[simp] theorem raiseDone_sts (e : Event) (s : State) : (raiseDone e s).sts = s.sts := rfl
@[simp] theorem raiseDone_ctl (e : Event) (s : State) : (raiseDone e s).ctl = s.ctl := rfl
@[simp] theorem raiseDone_side (e : Event) (s : State) : (raiseDone e s).side = s.side := rfl
@[simp] theorem raiseDone_dens (e : Event) (s : State) : (raiseDone e s).dens = s.dens := rfl
@[simp] theorem raiseDone_drv (e : Event) (s : State) : (raiseDone e s).drv = s.drv := rfl
@[simp] theorem raiseDone_stepdir (e : Event) (s : State) : (raiseDone e s).stepdir = s.stepdir := rfl
@[simp] theorem raiseDone_written (e : Event) (s : State) : (raiseDone e s).written = s.written := rfl
@[simp] theorem raiseDone_motorOn (e : Event) (s : State) : (raiseDone e s).motorOn = s.motorOn := rfl
@[simp] theorem raiseDone_spindown (e : Event) (s : State) : (raiseDone e s).spindown = s.spindown := rfl
@[simp] theorem raiseDone_irqDone (e : Event) (s : State) : (raiseDone e s).irqDone = (s.irqDone || irqGate profile e s.ctl s.cmd) := rfl
@[simp] theorem raiseDone_irqDrq (e : Event) (s : State) : (raiseDone e s).irqDrq = s.irqDrq := rfl
@[simp] theorem raiseDone_nfCount (e : Event) (s : State) : (raiseDone e s).nfCount = s.nfCount := rfl
@[simp] theorem raiseDone_seekCount (e : Event) (s : State) : (raiseDone e s).seekCount = s.seekCount := rfl
@[simp] theorem raiseDone_inbox (e : Event) (s : State) : (raiseDone e s).inbox = s.inbox := rfl
@[simp] theorem raiseDone_hostRead (e : Event) (s : State) : (raiseDone e s).hostRead = s.hostRead := rfl
@[simp] theorem raiseDone_freeCount (e : Event) (s : State) : (raiseDone e s).freeCount = s.freeCount := rfl
@[simp] theorem raiseDone_drive (e : Event) (s : State) (j : DriveIx) : (raiseDone e s).drive j = s.drive j := rfl

/-! ### `raiseDrq` (R102, R206) -/

@[simp] theorem raiseDrq_cmd (s : State) : (raiseDrq s).cmd = s.cmd := rfl
@[simp] theorem raiseDrq_trk (s : State) : (raiseDrq s).trk = s.trk := rfl
@[simp] theorem raiseDrq_sec (s : State) : (raiseDrq s).sec = s.sec := rfl
@[simp] theorem raiseDrq_dat (s : State) : (raiseDrq s).dat = s.dat := rfl
@[simp] theorem raiseDrq_sts (s : State) : (raiseDrq s).sts = setBit s.sts stDrq := rfl
@[simp] theorem raiseDrq_ctl (s : State) : (raiseDrq s).ctl = s.ctl := rfl
@[simp] theorem raiseDrq_side (s : State) : (raiseDrq s).side = s.side := rfl
@[simp] theorem raiseDrq_dens (s : State) : (raiseDrq s).dens = s.dens := rfl
@[simp] theorem raiseDrq_drv (s : State) : (raiseDrq s).drv = s.drv := rfl
@[simp] theorem raiseDrq_stepdir (s : State) : (raiseDrq s).stepdir = s.stepdir := rfl
@[simp] theorem raiseDrq_written (s : State) : (raiseDrq s).written = s.written := rfl
@[simp] theorem raiseDrq_motorOn (s : State) : (raiseDrq s).motorOn = s.motorOn := rfl
@[simp] theorem raiseDrq_spindown (s : State) : (raiseDrq s).spindown = s.spindown := rfl
@[simp] theorem raiseDrq_irqDone (s : State) : (raiseDrq s).irqDone = s.irqDone := rfl
@[simp] theorem raiseDrq_irqDrq (s : State) : (raiseDrq s).irqDrq = true := rfl
@[simp] theorem raiseDrq_nfCount (s : State) : (raiseDrq s).nfCount = s.nfCount := rfl
@[simp] theorem raiseDrq_seekCount (s : State) : (raiseDrq s).seekCount = s.seekCount := rfl
@[simp] theorem raiseDrq_inbox (s : State) : (raiseDrq s).inbox = s.inbox := rfl
@[simp] theorem raiseDrq_hostRead (s : State) : (raiseDrq s).hostRead = s.hostRead := rfl
@[simp] theorem raiseDrq_freeCount (s : State) : (raiseDrq s).freeCount = s.freeCount := rfl
@[simp] theorem raiseDrq_drive (s : State) (j : DriveIx) : (raiseDrq s).drive j = s.drive j := rfl

/-! ### `ackDrq` (R136, R137) -/

@[simp] theorem ackDrq_cmd (s : State) : (ackDrq s).cmd = s.cmd := rfl
@[simp] theorem ackDrq_trk (s : State) : (ackDrq s).trk = s.trk := rfl
@[simp] theorem ackDrq_sec (s : State) : (ackDrq s).sec = s.sec := rfl
@[simp] theorem ackDrq_dat (s : State) : (ackDrq s).dat = s.dat := rfl
@[simp] theorem ackDrq_sts (s : State) : (ackDrq s).sts = clearBit s.sts stDrq := rfl
@[simp] theorem ackDrq_ctl (s : State) : (ackDrq s).ctl = s.ctl := rfl
@[simp] theorem ackDrq_side (s : State) : (ackDrq s).side = s.side := rfl
@[simp] theorem ackDrq_dens (s : State) : (ackDrq s).dens = s.dens := rfl
@[simp] theorem ackDrq_drv (s : State) : (ackDrq s).drv = s.drv := rfl
@[simp] theorem ackDrq_stepdir (s : State) : (ackDrq s).stepdir = s.stepdir := rfl
@[simp] theorem ackDrq_written (s : State) : (ackDrq s).written = s.written := rfl
@[simp] theorem ackDrq_motorOn (s : State) : (ackDrq s).motorOn = s.motorOn := rfl
@[simp] theorem ackDrq_spindown (s : State) : (ackDrq s).spindown = s.spindown := rfl
@[simp] theorem ackDrq_irqDone (s : State) : (ackDrq s).irqDone = s.irqDone := rfl
@[simp] theorem ackDrq_irqDrq (s : State) : (ackDrq s).irqDrq = false := rfl
@[simp] theorem ackDrq_nfCount (s : State) : (ackDrq s).nfCount = s.nfCount := rfl
@[simp] theorem ackDrq_seekCount (s : State) : (ackDrq s).seekCount = s.seekCount := rfl
@[simp] theorem ackDrq_inbox (s : State) : (ackDrq s).inbox = s.inbox := rfl
@[simp] theorem ackDrq_hostRead (s : State) : (ackDrq s).hostRead = s.hostRead := rfl
@[simp] theorem ackDrq_freeCount (s : State) : (ackDrq s).freeCount = s.freeCount := rfl
@[simp] theorem ackDrq_drive (s : State) (j : DriveIx) : (ackDrq s).drive j = s.drive j := rfl

/-! ### `ackDone` (R131) -/

@[simp] theorem ackDone_cmd (s : State) : (ackDone s).cmd = s.cmd := rfl
@[simp] theorem ackDone_trk (s : State) : (ackDone s).trk = s.trk := rfl
@[simp] theorem ackDone_sec (s : State) : (ackDone s).sec = s.sec := rfl
@[simp] theorem ackDone_dat (s : State) : (ackDone s).dat = s.dat := rfl
@[simp] theorem ackDone_sts (s : State) : (ackDone s).sts = s.sts := rfl
@[simp] theorem ackDone_ctl (s : State) : (ackDone s).ctl = s.ctl := rfl
@[simp] theorem ackDone_side (s : State) : (ackDone s).side = s.side := rfl
@[simp] theorem ackDone_dens (s : State) : (ackDone s).dens = s.dens := rfl
@[simp] theorem ackDone_drv (s : State) : (ackDone s).drv = s.drv := rfl
@[simp] theorem ackDone_stepdir (s : State) : (ackDone s).stepdir = s.stepdir := rfl
@[simp] theorem ackDone_written (s : State) : (ackDone s).written = s.written := rfl
@[simp] theorem ackDone_motorOn (s : State) : (ackDone s).motorOn = s.motorOn := rfl
@[simp] theorem ackDone_spindown (s : State) : (ackDone s).spindown = s.spindown := rfl
@[simp] theorem ackDone_irqDone (s : State) : (ackDone s).irqDone = false := rfl
@[simp] theorem ackDone_irqDrq (s : State) : (ackDone s).irqDrq = s.irqDrq := rfl
@[simp] theorem ackDone_nfCount (s : State) : (ackDone s).nfCount = s.nfCount := rfl
@[simp] theorem ackDone_seekCount (s : State) : (ackDone s).seekCount = s.seekCount := rfl
@[simp] theorem ackDone_inbox (s : State) : (ackDone s).inbox = s.inbox := rfl
@[simp] theorem ackDone_hostRead (s : State) : (ackDone s).hostRead = s.hostRead := rfl
@[simp] theorem ackDone_freeCount (s : State) : (ackDone s).freeCount = s.freeCount := rfl
@[simp] theorem ackDone_drive (s : State) (j : DriveIx) : (ackDone s).drive j = s.drive j := rfl

/-! ### `cbDataReady` (R200) -/

@[simp] theorem cbDataReady_cmd (b : Byte) (s : State) : (cbDataReady b s).cmd = s.cmd := rfl
@[simp] theorem cbDataReady_trk (b : Byte) (s : State) : (cbDataReady b s).trk = s.trk := rfl
@[simp] theorem cbDataReady_sec (b : Byte) (s : State) : (cbDataReady b s).sec = s.sec := rfl
@[simp] theorem cbDataReady_dat (b : Byte) (s : State) : (cbDataReady b s).dat = b := rfl
@[simp] theorem cbDataReady_sts (b : Byte) (s : State) : (cbDataReady b s).sts = setBit s.sts stDrq := rfl
@[simp] theorem cbDataReady_ctl (b : Byte) (s : State) : (cbDataReady b s).ctl = s.ctl := rfl
@[simp] theorem cbDataReady_side (b : Byte) (s : State) : (cbDataReady b s).side = s.side := rfl
@[simp] theorem cbDataReady_dens (b : Byte) (s : State) : (cbDataReady b s).dens = s.dens := rfl
@[simp] theorem cbDataReady_drv (b : Byte) (s : State) : (cbDataReady b s).drv = s.drv := rfl
@[simp] theorem cbDataReady_stepdir (b : Byte) (s : State) : (cbDataReady b s).stepdir = s.stepdir := rfl
@[simp] theorem cbDataReady_written (b : Byte) (s : State) : (cbDataReady b s).written = s.written := rfl
@[simp] theorem cbDataReady_motorOn (b : Byte) (s : State) : (cbDataReady b s).motorOn = s.motorOn := rfl
@[simp] theorem cbDataReady_spindown (b : Byte) (s : State) : (cbDataReady b s).spindown = s.spindown := rfl
@[simp] theorem cbDataReady_irqDone (b : Byte) (s : State) : (cbDataReady b s).irqDone = s.irqDone := rfl
@[simp] theorem cbDataReady_irqDrq (b : Byte) (s : State) : (cbDataReady b s).irqDrq = true := rfl
@[simp] theorem cbDataReady_nfCount (b : Byte) (s : State) : (cbDataReady b s).nfCount = s.nfCount := rfl
@[simp] theorem cbDataReady_seekCount (b : Byte) (s : State) : (cbDataReady b s).seekCount = s.seekCount := rfl
@[simp] theorem cbDataReady_inbox (b : Byte) (s : State) : (cbDataReady b s).inbox = s.inbox := rfl
@[simp] theorem cbDataReady_hostRead (b : Byte) (s : State) : (cbDataReady b s).hostRead = s.hostRead := rfl
@[simp] theorem cbDataReady_freeCount (b : Byte) (s : State) : (cbDataReady b s).freeCount = s.freeCount := rfl
@[simp] theorem cbDataReady_drive (b : Byte) (s : State) (j : DriveIx) : (cbDataReady b s).drive j = s.drive j := rfl

/-! ### `cbFinished` (R201) -/

@[simp] theorem cbFinished_cmd (s : State) : (cbFinished s).cmd = s.cmd := rfl
@[simp] theorem cbFinished_trk (s : State) : (cbFinished s).trk = s.trk := rfl
@[simp] theorem cbFinished_sec (s : State) : (cbFinished s).sec = s.sec := rfl
@[simp] theorem cbFinished_dat (s : State) : (cbFinished s).dat = s.dat := rfl
@[simp] theorem cbFinished_sts (s : State) : (cbFinished s).sts = patDone s.cmd s.trk := rfl
@[simp] theorem cbFinished_ctl (s : State) : (cbFinished s).ctl = s.ctl := rfl
@[simp] theorem cbFinished_side (s : State) : (cbFinished s).side = s.side := rfl
@[simp] theorem cbFinished_dens (s : State) : (cbFinished s).dens = s.dens := rfl
@[simp] theorem cbFinished_drv (s : State) : (cbFinished s).drv = s.drv := rfl
@[simp] theorem cbFinished_stepdir (s : State) : (cbFinished s).stepdir = s.stepdir := rfl
@[simp] theorem cbFinished_written (s : State) : (cbFinished s).written = s.written := rfl
@[simp] theorem cbFinished_motorOn (s : State) : (cbFinished s).motorOn = s.motorOn := rfl
@[simp] theorem cbFinished_spindown (s : State) : (cbFinished s).spindown = spindownTicks := rfl
@[simp] theorem cbFinished_irqDone (s : State) : (cbFinished s).irqDone = (s.irqDone || irqGate profile .finished s.ctl s.cmd) := rfl
@[simp] theorem cbFinished_irqDrq (s : State) : (cbFinished s).irqDrq = s.irqDrq := rfl
@[simp] theorem cbFinished_nfCount (s : State) : (cbFinished s).nfCount = s.nfCount := rfl
@[simp] theorem cbFinished_seekCount (s : State) : (cbFinished s).seekCount = s.seekCount := rfl
@[simp] theorem cbFinished_inbox (s : State) : (cbFinished s).inbox = s.inbox := rfl
@[simp] theorem cbFinished_hostRead (s : State) : (cbFinished s).hostRead = s.hostRead := rfl
@[simp] theorem cbFinished_freeCount (s : State) : (cbFinished s).freeCount = s.freeCount := rfl
@[simp] theorem cbFinished_drive (s : State) (j : DriveIx) : (cbFinished s).drive j = s.drive j := rfl

/-! ### `cbNotFound` (R202) -/

@[simp] theorem cbNotFound_cmd (s : State) : (cbNotFound s).cmd = s.cmd := rfl
@[simp] theorem cbNotFound_trk (s : State) : (cbNotFound s).trk = s.trk := rfl
@[simp] theorem cbNotFound_sec (s : State) : (cbNotFound s).sec = s.sec := rfl
@[simp] theorem cbNotFound_dat (s : State) : (cbNotFound s).dat = s.dat := rfl
@[simp] theorem cbNotFound_sts (s : State) : (cbNotFound s).sts = clearBit patNotFound stMotor := rfl
@[simp] theorem cbNotFound_ctl (s : State) : (cbNotFound s).ctl = s.ctl := rfl
@[simp] theorem cbNotFound_side (s : State) : (cbNotFound s).side = s.side := rfl
@[simp] theorem cbNotFound_dens (s : State) : (cbNotFound s).dens = s.dens := rfl
@[simp] theorem cbNotFound_drv (s : State) : (cbNotFound s).drv = s.drv := rfl
@[simp] theorem cbNotFound_stepdir (s : State) : (cbNotFound s).stepdir = s.stepdir := rfl
@[simp] theorem cbNotFound_written (s : State) : (cbNotFound s).written = s.written := rfl
@[simp] theorem cbNotFound_motorOn (s : State) : (cbNotFound s).motorOn = false := rfl
@[simp] theorem cbNotFound_spindown (s : State) : (cbNotFound s).spindown = 0 := rfl
@[simp] theorem cbNotFound_irqDone (s : State) : (cbNotFound s).irqDone = (s.irqDone || irqGate profile .notFound s.ctl s.cmd) := rfl
@[simp] theorem cbNotFound_irqDrq (s : State) : (cbNotFound s).irqDrq = s.irqDrq := rfl
@[simp] theorem cbNotFound_nfCount (s : State) : (cbNotFound s).nfCount = s.nfCount := rfl
@[simp] theorem cbNotFound_seekCount (s : State) : (cbNotFound s).seekCount = s.seekCount := rfl
@[simp] theorem cbNotFound_inbox (s : State) : (cbNotFound s).inbox = s.inbox := rfl
@[simp] theorem cbNotFound_hostRead (s : State) : (cbNotFound s).hostRead = s.hostRead := rfl
@[simp] theorem cbNotFound_freeCount (s : State) : (cbNotFound s).freeCount = s.freeCount := rfl
@[simp] theorem cbNotFound_drive (s : State) (j : DriveIx) : (cbNotFound s).drive j = s.drive j := rfl

/-! ### `cbDataCrcError` (R203) -/

@[simp] theorem cbDataCrcError_cmd (s : State) : (cbDataCrcError s).cmd = s.cmd := rfl
@[simp] theorem cbDataCrcError_trk (s : State) : (cbDataCrcError s).trk = s.trk := rfl
@[simp] theorem cbDataCrcError_sec (s : State) : (cbDataCrcError s).sec = s.sec := rfl
@[simp] theorem cbDataCrcError_dat (s : State) : (cbDataCrcError s).dat = s.dat := rfl
@[simp] theorem cbDataCrcError_sts (s : State) : (cbDataCrcError s).sts = clearBit patDataCrc stMotor := rfl
@[simp] theorem cbDataCrcError_ctl (s : State) : (cbDataCrcError s).ctl = s.ctl := rfl
@[simp] theorem cbDataCrcError_side (s : State) : (cbDataCrcError s).side = s.side := rfl
@[simp] theorem cbDataCrcError_dens (s : State) : (cbDataCrcError s).dens = s.dens := rfl
@[simp] theorem cbDataCrcError_drv (s : State) : (cbDataCrcError s).drv = s.drv := rfl
@[simp] theorem cbDataCrcError_stepdir (s : State) : (cbDataCrcError s).stepdir = s.stepdir := rfl
@[simp] theorem cbDataCrcError_written (s : State) : (cbDataCrcError s).written = s.written := rfl
@[simp] theorem cbDataCrcError_motorOn (s : State) : (cbDataCrcError s).motorOn = false := rfl
@[simp] theorem cbDataCrcError_spindown (s : State) : (cbDataCrcError s).spindown = 0 := rfl
@[simp] theorem cbDataCrcError_irqDone (s : State) : (cbDataCrcError s).irqDone = (s.irqDone || irqGate profile .dataCrc s.ctl s.cmd) := rfl
@[simp] theorem cbDataCrcError_irqDrq (s : State) : (cbDataCrcError s).irqDrq = s.irqDrq := rfl
@[simp] theorem cbDataCrcError_nfCount (s : State) : (cbDataCrcError s).nfCount = s.nfCount := rfl
@[simp] theorem cbDataCrcError_seekCount (s : State) : (cbDataCrcError s).seekCount = s.seekCount := rfl
@[simp] theorem cbDataCrcError_inbox (s : State) : (cbDataCrcError s).inbox = s.inbox := rfl
@[simp] theorem cbDataCrcError_hostRead (s : State) : (cbDataCrcError s).hostRead = s.hostRead := rfl
@[simp] theorem cbDataCrcError_freeCount (s : State) : (cbDataCrcError s).freeCount = s.freeCount := rfl
@[simp] theorem cbDataCrcError_drive (s : State) (j : DriveIx) : (cbDataCrcError s).drive j = s.drive j := rfl

/-! ### `cbHeaderCrcError` (R204) -/

@[simp] theorem cbHeaderCrcError_cmd (s : State) : (cbHeaderCrcError s).cmd = s.cmd := rfl
@[simp] theorem cbHeaderCrcError_trk (s : State) : (cbHeaderCrcError s).trk = s.trk := rfl
@[simp] theorem cbHeaderCrcError_sec (s : State) : (cbHeaderCrcError s).sec = s.sec := rfl
@[simp] theorem cbHeaderCrcError_dat (s : State) : (cbHeaderCrcError s).dat = s.dat := rfl
@[simp] theorem cbHeaderCrcError_sts (s : State) : (cbHeaderCrcError s).sts = clearBit patHeadCrc stMotor := rfl
@[simp] theorem cbHeaderCrcError_ctl (s : State) : (cbHeaderCrcError s).ctl = s.ctl := rfl
@[simp] theorem cbHeaderCrcError_side (s : State) : (cbHeaderCrcError s).side = s.side := rfl
@[simp] theorem cbHeaderCrcError_dens (s : State) : (cbHeaderCrcError s).dens = s.dens := rfl
@[simp] theorem cbHeaderCrcError_drv (s : State) : (cbHeaderCrcError s).drv = s.drv := rfl
@[simp] theorem cbHeaderCrcError_stepdir (s : State) : (cbHeaderCrcError s).stepdir = s.stepdir := rfl
@[simp] theorem cbHeaderCrcError_written (s : State) : (cbHeaderCrcError s).written = s.written := rfl
@[simp] theorem cbHeaderCrcError_motorOn (s : State) : (cbHeaderCrcError s).motorOn = false := rfl
@[simp] theorem cbHeaderCrcError_spindown (s : State) : (cbHeaderCrcError s).spindown = 0 := rfl
@[simp] theorem cbHeaderCrcError_irqDone (s : State) : (cbHeaderCrcError s).irqDone = (s.irqDone || irqGate profile .headCrc s.ctl s.cmd) := rfl
@[simp] theorem cbHeaderCrcError_irqDrq (s : State) : (cbHeaderCrcError s).irqDrq = s.irqDrq := rfl
@[simp] theorem cbHeaderCrcError_nfCount (s : State) : (cbHeaderCrcError s).nfCount = s.nfCount := rfl
@[simp] theorem cbHeaderCrcError_seekCount (s : State) : (cbHeaderCrcError s).seekCount = s.seekCount := rfl
@[simp] theorem cbHeaderCrcError_inbox (s : State) : (cbHeaderCrcError s).inbox = s.inbox := rfl
@[simp] theorem cbHeaderCrcError_hostRead (s : State) : (cbHeaderCrcError s).hostRead = s.hostRead := rfl
@[simp] theorem cbHeaderCrcError_freeCount (s : State) : (cbHeaderCrcError s).freeCount = s.freeCount := rfl
@[simp] theorem cbHeaderCrcError_drive (s : State) (j : DriveIx) : (cbHeaderCrcError s).drive j = s.drive j := rfl

/-! ### `cbWriteProtect` (R205) -/

@[simp] theorem cbWriteProtect_cmd (s : State) : (cbWriteProtect s).cmd = s.cmd := rfl
@[simp] theorem cbWriteProtect_trk (s : State) : (cbWriteProtect s).trk = s.trk := rfl
@[simp] theorem cbWriteProtect_sec (s : State) : (cbWriteProtect s).sec = s.sec := rfl
@[simp] theorem cbWriteProtect_dat (s : State) : (cbWriteProtect s).dat = s.dat := rfl
@[simp] theorem cbWriteProtect_sts (s : State) : (cbWriteProtect s).sts = clearBit patWrProt stMotor := rfl
@[simp] theorem cbWriteProtect_ctl (s : State) : (cbWriteProtect s).ctl = s.ctl := rfl
@[simp] theorem cbWriteProtect_side (s : State) : (cbWriteProtect s).side = s.side := rfl
@[simp] theorem cbWriteProtect_dens (s : State) : (cbWriteProtect s).dens = s.dens := rfl
@[simp] theorem cbWriteProtect_drv (s : State) : (cbWriteProtect s).drv = s.drv := rfl
@[simp] theorem cbWriteProtect_stepdir (s : State) : (cbWriteProtect s).stepdir = s.stepdir := rfl
@[simp] theorem cbWriteProtect_written (s : State) : (cbWriteProtect s).written = s.written := rfl
@[simp] theorem cbWriteProtect_motorOn (s : State) : (cbWriteProtect s).motorOn = false := rfl
@[simp] theorem cbWriteProtect_spindown (s : State) : (cbWriteProtect s).spindown = 0 := rfl
@[simp] theorem cbWriteProtect_irqDone (s : State) : (cbWriteProtect s).irqDone = (s.irqDone || irqGate profile .wrProt s.ctl s.cmd) := rfl
@[simp] theorem cbWriteProtect_irqDrq (s : State) : (cbWriteProtect s).irqDrq = s.irqDrq := rfl
@[simp] theorem cbWriteProtect_nfCount (s : State) : (cbWriteProtect s).nfCount = s.nfCount := rfl
@[simp] theorem cbWriteProtect_seekCount (s : State) : (cbWriteProtect s).seekCount = s.seekCount := rfl
@[simp] theorem cbWriteProtect_inbox (s : State) : (cbWriteProtect s).inbox = s.inbox := rfl
@[simp] theorem cbWriteProtect_hostRead (s : State) : (cbWriteProtect s).hostRead = s.hostRead := rfl
@[simp] theorem cbWriteProtect_freeCount (s : State) : (cbWriteProtect s).freeCount = s.freeCount := rfl
@[simp] theorem cbWriteProtect_drive (s : State) (j : DriveIx) : (cbWriteProtect s).drive j = s.drive j := rfl

/-! ### `setDrive` (R22) -/

@[simp] theorem setDrive_cmd (s : State) (d : DriveIx) (x : Drive) : (s.setDrive d x).cmd = s.cmd := rfl
@[simp] theorem setDrive_trk (s : State) (d : DriveIx) (x : Drive) : (s.setDrive d x).trk = s.trk := rfl
@[simp] theorem setDrive_sec (s : State) (d : DriveIx) (x : Drive) : (s.setDrive d x).sec = s.sec := rfl
@[simp] theorem setDrive_dat (s : State) (d : DriveIx) (x : Drive) : (s.setDrive d x).dat = s.dat := rfl
@[simp] theorem setDrive_sts (s : State) (d : DriveIx) (x : Drive) : (s.setDrive d x).sts = s.sts := rfl
@[simp] theorem setDrive_ctl (s : State) (d : DriveIx) (x : Drive) : (s.setDrive d x).ctl = s.ctl := rfl
@[simp] theorem setDrive_side (s : State) (d : DriveIx) (x : Drive) : (s.setDrive d x).side = s.side := rfl
@[simp] theorem setDrive_dens (s : State) (d : DriveIx) (x : Drive) : (s.setDrive d x).dens = s.dens := rfl
@[simp] theorem setDrive_drv (s : State) (d : DriveIx) (x : Drive) : (s.setDrive d x).drv = s.drv := rfl
@[simp] theorem setDrive_stepdir (s : State) (d : DriveIx) (x : Drive) : (s.setDrive d x).stepdir = s.stepdir := rfl
@[simp] theorem setDrive_written (s : State) (d : DriveIx) (x : Drive) : (s.setDrive d x).written = s.written := rfl
@[simp] theorem setDrive_motorOn (s : State) (d : DriveIx) (x : Drive) : (s.setDrive d x).motorOn = s.motorOn := rfl
@[simp] theorem setDrive_spindown (s : State) (d : DriveIx) (x : Drive) : (s.setDrive d x).spindown = s.spindown := rfl
@[simp] theorem setDrive_irqDone (s : State) (d : DriveIx) (x : Drive) : (s.setDrive d x).irqDone = s.irqDone := rfl
@[simp] theorem setDrive_irqDrq (s : State) (d : DriveIx) (x : Drive) : (s.setDrive d x).irqDrq = s.irqDrq := rfl
@[simp] theorem setDrive_nfCount (s : State) (d : DriveIx) (x : Drive) : (s.setDrive d x).nfCount = s.nfCount := rfl
@[simp] theorem setDrive_seekCount (s : State) (d : DriveIx) (x : Drive) : (s.setDrive d x).seekCount = s.seekCount := rfl
@[simp] theorem setDrive_inbox (s : State) (d : DriveIx) (x : Drive) : (s.setDrive d x).inbox = s.inbox := rfl
@[simp] theorem setDrive_hostRead (s : State) (d : DriveIx) (x : Drive) : (s.setDrive d x).hostRead = s.hostRead := rfl
@[simp] theorem setDrive_freeCount (s : State) (d : DriveIx) (x : Drive) : (s.setDrive d x).freeCount = s.freeCount := rfl

/-! ### `setSession` (R26) -/

@[simp] theorem setSession_cmd (s : State) (d : DriveIx) (ses : Session) : (s.setSession d ses).cmd = s.cmd := rfl
@[simp] theorem setSession_trk (s : State) (d : DriveIx) (ses : Session) : (s.setSession d ses).trk = s.trk := rfl
@[simp] theorem setSession_sec (s : State) (d : DriveIx) (ses : Session) : (s.setSession d ses).sec = s.sec := rfl
@[simp] theorem setSession_dat (s : State) (d : DriveIx) (ses : Session) : (s.setSession d ses).dat = s.dat := rfl
@[simp] theorem setSession_sts (s : State) (d : DriveIx) (ses : Session) : (s.setSession d ses).sts = s.sts := rfl
@[simp] theorem setSession_ctl (s : State) (d : DriveIx) (ses : Session) : (s.setSession d ses).ctl = s.ctl := rfl
@[simp] theorem setSession_side (s : State) (d : DriveIx) (ses : Session) : (s.setSession d ses).side = s.side := rfl
@[simp] theorem setSession_dens (s : State) (d : DriveIx) (ses : Session) : (s.setSession d ses).dens = s.dens := rfl
@[simp] theorem setSession_drv (s : State) (d : DriveIx) (ses : Session) : (s.setSession d ses).drv = s.drv := rfl
@[simp] theorem setSession_stepdir (s : State) (d : DriveIx) (ses : Session) : (s.setSession d ses).stepdir = s.stepdir := rfl
@[simp] theorem setSession_written (s : State) (d : DriveIx) (ses : Session) : (s.setSession d ses).written = s.written := rfl
@[simp] theorem setSession_motorOn (s : State) (d : DriveIx) (ses : Session) : (s.setSession d ses).motorOn = s.motorOn := rfl
@[simp] theorem setSession_spindown (s : State) (d : DriveIx) (ses : Session) : (s.setSession d ses).spindown = s.spindown := rfl
@[simp] theorem setSession_irqDone (s : State) (d : DriveIx) (ses : Session) : (s.setSession d ses).irqDone = s.irqDone := rfl
@[simp] theorem setSession_irqDrq (s : State) (d : DriveIx) (ses : Session) : (s.setSession d ses).irqDrq = s.irqDrq := rfl
@[simp] theorem setSession_nfCount (s : State) (d : DriveIx) (ses : Session) : (s.setSession d ses).nfCount = s.nfCount := rfl
@[simp] theorem setSession_seekCount (s : State) (d : DriveIx) (ses : Session) : (s.setSession d ses).seekCount = s.seekCount := rfl
@[simp] theorem setSession_inbox (s : State) (d : DriveIx) (ses : Session) : (s.setSession d ses).inbox = s.inbox := rfl
@[simp] theorem setSession_hostRead (s : State) (d : DriveIx) (ses : Session) : (s.setSession d ses).hostRead = s.hostRead := rfl
@[simp] theorem setSession_freeCount (s : State) (d : DriveIx) (ses : Session) : (s.setSession d ses).freeCount = s.freeCount := rfl

/-! ### `abort` (R159) -/

@[simp] theorem abort_cmd (d : DriveIx) (s : State) : (abort d s).cmd = s.cmd := rfl
@[simp] theorem abort_trk (d : DriveIx) (s : State) : (abort d s).trk = s.trk := rfl
@[simp] theorem abort_sec (d : DriveIx) (s : State) : (abort d s).sec = s.sec := rfl
@[simp] theorem abort_dat (d : DriveIx) (s : State) : (abort d s).dat = s.dat := rfl
@[simp] theorem abort_sts (d : DriveIx) (s : State) : (abort d s).sts = s.sts := rfl
@[simp] theorem abort_ctl (d : DriveIx) (s : State) : (abort d s).ctl = s.ctl := rfl
@[simp] theorem abort_side (d : DriveIx) (s : State) : (abort d s).side = s.side := rfl
@[simp] theorem abort_dens (d : DriveIx) (s : State) : (abort d s).dens = s.dens := rfl
@[simp] theorem abort_drv (d : DriveIx) (s : State) : (abort d s).drv = s.drv := rfl
@[simp] theorem abort_stepdir (d : DriveIx) (s : State) : (abort d s).stepdir = s.stepdir := rfl
@[simp] theorem abort_written (d : DriveIx) (s : State) : (abort d s).written = s.written := rfl
@[simp] theorem abort_motorOn (d : DriveIx) (s : State) : (abort d s).motorOn = s.motorOn := rfl
@[simp] theorem abort_spindown (d : DriveIx) (s : State) : (abort d s).spindown = s.spindown := rfl
@[simp] theorem abort_irqDone (d : DriveIx) (s : State) : (abort d s).irqDone = s.irqDone := rfl
@[simp] theorem abort_irqDrq (d : DriveIx) (s : State) : (abort d s).irqDrq = s.irqDrq := rfl
@[simp] theorem abort_nfCount (d : DriveIx) (s : State) : (abort d s).nfCount = s.nfCount := rfl
@[simp] theorem abort_seekCount (d : DriveIx) (s : State) : (abort d s).seekCount = s.seekCount := rfl
@[simp] theorem abort_inbox (d : DriveIx) (s : State) : (abort d s).inbox = s.inbox := rfl
@[simp] theorem abort_hostRead (d : DriveIx) (s : State) : (abort d s).hostRead = s.hostRead := rfl
@[simp] theorem abort_freeCount (d : DriveIx) (s : State) : (abort d s).freeCount = s.freeCount := rfl

/-! ### `abortAll` (R120) -/

@[simp] theorem abortAll_cmd (s : State) : (abortAll s).cmd = s.cmd := rfl
@[simp] theorem abortAll_trk (s : State) : (abortAll s).trk = s.trk := rfl
@[simp] theorem abortAll_sec (s : State) : (abortAll s).sec = s.sec := rfl
@[simp] theorem abortAll_dat (s : State) : (abortAll s).dat = s.dat := rfl
@[simp] theorem abortAll_sts (s : State) : (abortAll s).sts = s.sts := rfl
@[simp] theorem abortAll_ctl (s : State) : (abortAll s).ctl = s.ctl := rfl
@[simp] theorem abortAll_side (s : State) : (abortAll s).side = s.side := rfl
@[simp] theorem abortAll_dens (s : State) : (abortAll s).dens = s.dens := rfl
@[simp] theorem abortAll_drv (s : State) : (abortAll s).drv = s.drv := rfl
@[simp] theorem abortAll_stepdir (s : State) : (abortAll s).stepdir = s.stepdir := rfl
@[simp] theorem abortAll_written (s : State) : (abortAll s).written = s.written := rfl
@[simp] theorem abortAll_motorOn (s : State) : (abortAll s).motorOn = s.motorOn := rfl
@[simp] theorem abortAll_spindown (s : State) : (abortAll s).spindown = s.spindown := rfl
@[simp] theorem abortAll_irqDone (s : State) : (abortAll s).irqDone = s.irqDone := rfl
@[simp] theorem abortAll_irqDrq (s : State) : (abortAll s).irqDrq = s.irqDrq := rfl
@[simp] theorem abortAll_nfCount (s : State) : (abortAll s).nfCount = s.nfCount := rfl
@[simp] theorem abortAll_seekCount (s : State) : (abortAll s).seekCount = s.seekCount := rfl
@[simp] theorem abortAll_inbox (s : State) : (abortAll s).inbox = s.inbox := rfl
@[simp] theorem abortAll_hostRead (s : State) : (abortAll s).hostRead = s.hostRead := rfl
@[simp] theorem abortAll_freeCount (s : State) : (abortAll s).freeCount = s.freeCount := rfl

/-! ### Reading a drive back -/

theorem drive_setDrive (s : State) (d j : DriveIx) (x : Drive) :
    (s.setDrive d x).drive j = if j = d then x else s.drive j := by cases d <;> cases j <;> rfl

@[simp] theorem drive_setDrive_same (s : State) (d : DriveIx) (x : Drive) : (s.setDrive d x).drive d = x := by
  cases d <;> rfl

theorem drive_setDrive_other (s : State) {d j : DriveIx} (x : Drive) (h : j ≠ d) :
    (s.setDrive d x).drive j = s.drive j := by simp [drive_setDrive, h]

theorem drive_setSession (s : State) (d j : DriveIx) (ses : Session) :
    (s.setSession d ses).drive j = if j = d then { s.drive d with bound := .image ses } else s.drive j :=
  drive_setDrive s d j _

@[simp] theorem drive_setSession_same (s : State) (d : DriveIx) (ses : Session) :
    (s.setSession d ses).drive d = { s.drive d with bound := .image ses } := drive_setDrive_same s d _

theorem drive_setSession_other (s : State) {d j : DriveIx} (ses : Session) (h : j ≠ d) :
    (s.setSession d ses).drive j = s.drive j := drive_setDrive_other s _ h

@[simp] theorem abortAll_drive (s : State) (j : DriveIx) :
    (abortAll s).drive j = { s.drive j with bound := (s.drive j).bound.stop } := by cases j <;> rfl

theorem abort_drive (s : State) (d j : DriveIx) :
    (abort d s).drive j = if j = d then { s.drive d with bound := (s.drive d).bound.stop } else s.drive j :=
  drive_setDrive s d j _

/-- Writing back the drive that is there changes nothing. -/
@[simp] theorem setDrive_drive_self (s : State) (d : DriveIx) : s.setDrive d (s.drive d) = s := by cases d <;> rfl

end Sys2Proof.Machine
end

