-- ==== Sys2Proof/Laws/Ops.lean ====
section
/-!
SUPPORT. What the shared operations of a command can do: acceptance (R80, R81), sequencing, the start of a transfer (R153 to
R157), the seek (R152).
-/

namespace Sys2Proof.Machine

/-! ### Classes -/

@[simp] theorem opOf_forceInt (flags : BitVec 4) : opOf (encode (.forceInt flags)) = 0xD#4 := by
  revert flags; decide

/-- Force Interrupt's is the only class 0xD (R61). -/
theorem opOf_ne_forceInt {i : Instr} (h : ∀ flags, i ≠ .forceInt flags) : opOf (encode i) ≠ 0xD#4 := by
  cases i with
  | forceInt flags => exact absurd rfl (h flags)
  | restore f => revert f; decide
  | seek f => revert f; decide
  | step f => revert f; decide
  | stepIn f => revert f; decide
  | stepOut f => revert f; decide
  | readSector f => revert f; decide
  | writeSectorA f => revert f; decide
  | writeSectorB f => revert f; decide
  | readAddress f => revert f; decide
  | invalid f => revert f; decide
  | writeTrack f => revert f; decide

/-! ### The track register -/

/-- One track inward, modulo 256 (R83). -/
theorem stepTrack_inward (trk : Byte) : (stepTrack .inward trk).toNat = (trk.toNat + 1) % 256 := by
  simp only [stepTrack, BitVec.toNat_add]; rfl

/-- One track outward, modulo 256 (R83). -/
theorem stepTrack_outward (trk : Byte) : (stepTrack .outward trk).toNat = (trk.toNat + 255) % 256 := by
  have h1 : (1#8).toNat = 1 := rfl
  simp only [stepTrack, BitVec.toNat_sub, h1]; omega

/-! ### Acceptance -/

/-- A command is ignored whole while busy (R80). -/
theorem acceptCommand_busy {v : Byte} {rule : State → Result} {s : State} (hb : s.busy = true)
    (hv : opOf v ≠ 0xD#4) : acceptCommand v rule s = .next s := by simp [acceptCommand, hb, hv]

/-- A command is accepted while idle, with the spin-up unless it is Force Interrupt (R80, R81). -/
theorem acceptCommand_idle {v : Byte} {rule : State → Result} {s : State} (hb : s.busy = false)
    (hv : opOf v ≠ 0xD#4) : acceptCommand v rule s = rule (spinUp { s with cmd := v }) := by
  simp [acceptCommand, latchCommand, hb, hv]

/-- Force Interrupt is always accepted and never spins the motor up (R80, R120). -/
theorem acceptCommand_force {v : Byte} {rule : State → Result} {s : State} (hv : opOf v = 0xD#4) :
    acceptCommand v rule s = rule { s with cmd := v } := by simp [acceptCommand, latchCommand, hv]

/-! ### Sequencing -/

@[simp] theorem andThen_next (s : State) (f : State → Result) : andThen (.next s) f = f s := rfl

/-- Two operations in sequence answer a next state only through a next state between them. -/
theorem andThen_eq_next {r : Result} {f : State → Result} {t : State} :
    andThen r f = .next t ↔ ∃ u, r = .next u ∧ f u = .next t := by
  cases r <;> simp [andThen]

/-- Two operations in sequence fault only where one of them does. -/
theorem andThen_eq_fault {r : Result} {f : State → Result} {e : Fault} :
    andThen r f = .fault e ↔ r = .fault e ∨ ∃ u, r = .next u ∧ f u = .fault e := by
  cases r <;> simp [andThen]

/-! ### Bindings -/

@[simp] theorem Binding.stop_image (ses : Session) : (Binding.image ses).stop = .image ses.stop := rfl
@[simp] theorem Binding.stop_empty : Binding.empty.stop = .empty := rfl
@[simp] theorem Binding.stop_alt : Binding.alt.stop = .alt := rfl

/-! ### Dispatch -/

/-- A transfer call that answers a next state has started on an image or on the dispatch countdown (R153 to R157). -/
theorem dispatchTransfer_cases {k : Transfer} {d : DriveIx} {r : Request} {s t : State}
    (h : dispatchTransfer k d r s = .next t) :
    (∃ ses, (s.drive d).bound = .image ses ∧
      t = s.setSession d (beginTransfer k (s.drive d).curtrk r ses)) ∨
    ((s.drive d).bound = .empty ∧ t = { s with nfCount := notFoundTicks }) := by
  unfold dispatchTransfer at h
  split at h
  · rename_i ses hb; cases h; exact .inl ⟨ses, hb, rfl⟩
  · rename_i hb; cases h; exact .inr ⟨hb, rfl⟩
  · cases h

/-- A transfer either starts, with its guards passed, or counts down to not-found (R173). -/
theorem beginTransfer_st (k : Transfer) (c : Nat) (r : Request) (ses : Session) :
    (beginTransfer k c r ses).st ≠ .idle := by
  unfold beginTransfer; split
  · cases k <;> simp
  · simp

/-- A transfer's start touches neither the image nor what is fixed for the session (R28, R29). -/
@[simp] theorem beginTransfer_img (k : Transfer) (c : Nat) (r : Request) (ses : Session) :
    (beginTransfer k c r ses).img = ses.img := by unfold beginTransfer; split <;> cases k <;> rfl
@[simp] theorem beginTransfer_geo (k : Transfer) (c : Nat) (r : Request) (ses : Session) :
    (beginTransfer k c r ses).geo = ses.geo := by unfold beginTransfer; split <;> cases k <;> rfl
@[simp] theorem beginTransfer_swp (k : Transfer) (c : Nat) (r : Request) (ses : Session) :
    (beginTransfer k c r ses).swp = ses.swp := by unfold beginTransfer; split <;> cases k <;> rfl
@[simp] theorem beginTransfer_div (k : Transfer) (c : Nat) (r : Request) (ses : Session) :
    (beginTransfer k c r ses).div = ses.div := by unfold beginTransfer; split <;> cases k <;> rfl
@[simp] theorem beginTransfer_asec (k : Transfer) (c : Nat) (r : Request) (ses : Session) :
    (beginTransfer k c r ses).asec = ses.asec := by unfold beginTransfer; split <;> cases k <;> rfl

/-- The drives after a seek (R152). -/
theorem recordSeek_drive (d j : DriveIx) (t : Nat) (s : State) :
    (recordSeek d t s).drive j = if j = d then { s.drive d with curtrk := t } else s.drive j :=
  drive_setDrive s d j _

/-- A seek on a drive that holds no alternate backend is taken (R152). -/
theorem dispatchSeek_next {d : DriveIx} {t : Nat} {s : State} (h : (s.drive d).bound ≠ .alt) :
    dispatchSeek d t s = .next (recordSeek d t s) := by
  unfold dispatchSeek
  split
  · rfl
  · rfl
  · rename_i hb; exact absurd hb h

/-- A seek on a drive that holds one is refused (R151). -/
theorem dispatchSeek_alt {d : DriveIx} {t : Nat} {s : State} (h : (s.drive d).bound = .alt) :
    dispatchSeek d t s = .refused .altBackend := by simp only [dispatchSeek, h]

end Sys2Proof.Machine
end

