-- ==== Sys2Proof/Laws/Activity.lean ====
section
/-!
SUPPORT. Which operations are in flight (R37): what the count depends on, and what abort leaves.
-/

namespace Sys2Proof.Machine

/-- What is in flight on a drive depends on its binding only (R37). -/
theorem inFlight_congr {s t : State} {d : DriveIx} (h : (t.drive d).bound = (s.drive d).bound) :
    inFlight t d = inFlight s d := by unfold inFlight; rw [h]

/-- The same for the number. -/
theorem driveActive_congr {s t : State} {d : DriveIx} (h : (t.drive d).bound = (s.drive d).bound) :
    driveActive t d = driveActive s d := by unfold driveActive; rw [inFlight_congr h]

/-- A drive with an image is active while its machine is not idle (R30, R37). -/
theorem driveActive_image {s : State} {d : DriveIx} {ses : Session} (h : (s.drive d).bound = .image ses) :
    driveActive s d = if ses.st = .idle then 0 else 1 := by
  have hf : inFlight s d = decide (ses.st ≠ .idle) := by unfold inFlight; rw [h]
  unfold driveActive
  rw [hf]
  by_cases hi : ses.st = .idle <;> simp [hi]

/-- Another session in a drive changes the activity of that drive only. -/
theorem driveActive_setSession (s : State) (d j : DriveIx) (ses : Session) :
    driveActive (s.setSession d ses) j =
      if j = d then (if ses.st = .idle then 0 else 1) else driveActive s j := by
  by_cases hj : j = d
  · subst hj; rw [if_pos rfl]; exact driveActive_image (by rw [drive_setSession_same])
  · rw [if_neg hj]; exact driveActive_congr (by rw [drive_setSession_other _ _ hj])

/-- Nothing is in flight on a drive after abort (R185). -/
theorem inFlight_abortAll (s : State) (d : DriveIx) : inFlight (abortAll s) d = false := by
  unfold inFlight
  rw [abortAll_drive]
  cases (s.drive d).bound <;> simp [Session.stop]

end Sys2Proof.Machine
end

