-- ==== Sys2Proof/Laws/Memory.lean ====
section
/-!
SUPPORT. The laws of image memory: a read after a write (R49), every operation keeps the canonical form, and two canonical
memories that read the same are the same data.
-/

namespace Sys2Proof.Machine

/-! ### The canonical form -/

theorem wfFrom_of_le {lo lo' : Nat} {m : Memory} (h : Memory.wfFrom lo m = true) (hle : lo' ≤ lo) :
    Memory.wfFrom lo' m = true := by
  cases m with
  | nil => rfl
  | cons c rest =>
    simp only [Memory.wfFrom, Bool.and_eq_true, decide_eq_true_eq] at h ⊢
    exact ⟨⟨by omega, h.1.2⟩, h.2⟩

theorem read_below {m : Memory} : ∀ {lo a : Nat}, Memory.wfFrom lo m = true → a < lo →
    Memory.read m a = Memory.unlisted := by
  induction m with
  | nil => intros; rfl
  | cons c rest ih =>
    intro lo a h ha
    simp only [Memory.wfFrom, Bool.and_eq_true, decide_eq_true_eq] at h
    have hne : c.1 ≠ a := by omega
    simp only [Memory.read, if_neg hne]
    exact ih h.2 (by omega)

theorem write_wfFrom {m : Memory} : ∀ {lo a : Nat} (b : Byte), Memory.wfFrom lo m = true → lo ≤ a →
    Memory.wfFrom lo (Memory.write m a b) = true := by
  induction m with
  | nil =>
    intro lo a b _ ha
    by_cases hb : b = Memory.unlisted <;> simp [Memory.write, Memory.wfFrom, hb, ha]
  | cons c rest ih =>
    intro lo a b h ha
    have h' := h
    simp only [Memory.wfFrom, Bool.and_eq_true, decide_eq_true_eq] at h'
    obtain ⟨⟨hlo, hne⟩, hrest⟩ := h'
    simp only [Memory.write]
    split
    · rename_i hk
      simp only [Memory.wfFrom, Bool.and_eq_true, decide_eq_true_eq]
      exact ⟨⟨hlo, hne⟩, ih b hrest (by omega)⟩
    · split
      · split
        · exact wfFrom_of_le hrest (by omega)
        · rename_i hb
          simp only [Memory.wfFrom, Bool.and_eq_true, decide_eq_true_eq]
          exact ⟨⟨hlo, hb⟩, hrest⟩
      · split
        · exact h
        · rename_i hb
          simp only [Memory.wfFrom, Bool.and_eq_true, decide_eq_true_eq]
          exact ⟨⟨ha, hb⟩, ⟨by omega, hne⟩, hrest⟩

/-- A write keeps the canonical form. -/
theorem write_wf {m : Memory} (a : Nat) (b : Byte) (h : Memory.wf m = true) :
    Memory.wf (Memory.write m a b) = true := write_wfFrom b h (Nat.zero_le a)

theorem read_write_from {m : Memory} : ∀ {lo : Nat} (a x : Nat) (b : Byte), Memory.wfFrom lo m = true →
    Memory.read (Memory.write m a b) x = if x = a then b else Memory.read m x := by
  induction m with
  | nil =>
    intro lo a x b _
    by_cases hb : b = Memory.unlisted <;> by_cases hx : x = a <;>
      simp [Memory.write, Memory.read, hb, hx, eq_comm (a := a)]
  | cons c rest ih =>
    intro lo a x b h
    simp only [Memory.wfFrom, Bool.and_eq_true, decide_eq_true_eq] at h
    obtain ⟨_, hrest⟩ := h
    simp only [Memory.write]
    split
    · simp only [Memory.read, ih a x b hrest]
      split_ifs <;> first | rfl | omega
    · split
      · rename_i hk
        split
        · rename_i hb
          by_cases hx : x = a
          · subst hx; simp [hb, read_below hrest (show x < c.1 + 1 by omega)]
          · have : c.1 ≠ x := by omega
            simp [Memory.read, hx, this]
        · simp only [Memory.read, hk, eq_comm (a := x)]
          split_ifs <;> rfl
      · split
        · rename_i hb
          by_cases hx : x = a
          · subst hx
            have hne : c.1 ≠ x := by omega
            simp [Memory.read, hne, hb, read_below hrest (show x < c.1 + 1 by omega)]
          · simp [hx]
        · simp only [Memory.read, eq_comm (a := x)]

/-- Reading after a write: the byte at its place, every other place as before (R49). -/
theorem read_write {m : Memory} (a x : Nat) (b : Byte) (h : Memory.wf m = true) :
    Memory.read (Memory.write m a b) x = if x = a then b else Memory.read m x := read_write_from a x b h

/-- Filling keeps the canonical form. -/
theorem fill_wf (b : Byte) : ∀ (n : Nat) {m : Memory} (a : Nat), Memory.wf m = true →
    Memory.wf (Memory.fill m a n b) = true
  | 0, _, _, h => h
  | n + 1, _, a, h => fill_wf b n (a + 1) (write_wf a b h)

/-- Reading after a fill (R184). -/
theorem read_fill (b : Byte) : ∀ (n : Nat) {m : Memory} (a x : Nat), Memory.wf m = true →
    Memory.read (Memory.fill m a n b) x = if a ≤ x ∧ x < a + n then b else Memory.read m x
  | 0, m, a, x, _ => by
    have : ¬ (a ≤ x ∧ x < a + 0) := by omega
    simp only [Memory.fill, if_neg this]
  | n + 1, m, a, x, h => by
    rw [Memory.fill, read_fill b n (a + 1) x (write_wf a b h), read_write a x b h]
    split_ifs <;> first | rfl | omega

theorem ofBytes_wfFrom : ∀ (bs : List Byte) (a : Nat), Memory.wfFrom a (Memory.ofBytes a bs) = true
  | [], _ => rfl
  | b :: rest, a => by
    simp only [Memory.ofBytes]
    split
    · exact wfFrom_of_le (ofBytes_wfFrom rest (a + 1)) (Nat.le_succ a)
    · rename_i hb
      simp [Memory.wfFrom, hb, ofBytes_wfFrom rest (a + 1)]

/-- The memory of a sequence of bytes is canonical. -/
theorem ofBytes_wf (bs : List Byte) : Memory.wf (Memory.ofBytes 0 bs) = true := ofBytes_wfFrom bs 0

/-- The memory of a sequence of bytes holds them in order (R27, R48). -/
theorem read_ofBytes : ∀ (bs : List Byte) (a i : Nat), Memory.read (Memory.ofBytes a bs) (a + i) = bs.getD i 0#8
  | [], _, i => by cases i <;> rfl
  | b :: rest, a, 0 => by
    simp only [Memory.ofBytes]
    split
    · rename_i hb
      rw [read_below (ofBytes_wfFrom rest (a + 1)) (by omega), hb]; rfl
    · simp [Memory.read]
  | b :: rest, a, i + 1 => by
    have hne : a ≠ a + (i + 1) := by omega
    have hadd : a + (i + 1) = a + 1 + i := by omega
    simp only [Memory.ofBytes]
    split
    · rw [hadd, read_ofBytes rest (a + 1) i]; rfl
    · simp only [Memory.read, if_neg hne]
      rw [hadd, read_ofBytes rest (a + 1) i]; rfl

/-! ### Bounds -/

theorem write_within {m : Memory} {n a : Nat} (b : Byte) (h : Memory.within m n = true) (ha : a < n) :
    Memory.within (Memory.write m a b) n = true := by
  induction m with
  | nil => by_cases hb : b = Memory.unlisted <;> simp [Memory.write, Memory.within, hb, ha]
  | cons c rest ih =>
    have h' := h
    simp only [Memory.within, Bool.and_eq_true, decide_eq_true_eq] at h'
    simp only [Memory.write]
    split_ifs <;> simp_all [Memory.within]

theorem fill_within (b : Byte) {lim : Nat} : ∀ (n : Nat) {m : Memory} (a : Nat), Memory.within m lim = true →
    a + n ≤ lim → Memory.within (Memory.fill m a n b) lim = true
  | 0, _, _, h, _ => h
  | n + 1, _, a, h, hle => fill_within b n (a + 1) (write_within b h (by omega)) (by omega)

theorem ofBytes_within : ∀ (bs : List Byte) (a n : Nat), a + bs.length ≤ n →
    Memory.within (Memory.ofBytes a bs) n = true
  | [], _, _, _ => rfl
  | b :: rest, a, n, h => by
    have hr := ofBytes_within rest (a + 1) n (by simp only [List.length_cons] at h; omega)
    simp only [List.length_cons] at h
    simp only [Memory.ofBytes]
    split
    · exact hr
    · simp only [Memory.within, hr, Bool.and_true, decide_eq_true_eq]; omega

/-! ### Equal memories are equal data -/

theorem ext_from : ∀ {m m' : Memory} {lo : Nat}, Memory.wfFrom lo m = true → Memory.wfFrom lo m' = true →
    (∀ a, Memory.read m a = Memory.read m' a) → m = m'
  | [], [], _, _, _, _ => rfl
  | [], c :: rest, lo, _, h', hr => by
    simp only [Memory.wfFrom, Bool.and_eq_true, decide_eq_true_eq] at h'
    exact absurd (by simpa [Memory.read] using (hr c.1).symm) h'.1.2
  | c :: rest, [], lo, h, _, hr => by
    simp only [Memory.wfFrom, Bool.and_eq_true, decide_eq_true_eq] at h
    exact absurd (by simpa [Memory.read] using hr c.1) h.1.2
  | c :: rest, c' :: rest', lo, h, h', hr => by
    simp only [Memory.wfFrom, Bool.and_eq_true, decide_eq_true_eq] at h h'
    have hk : c.1 = c'.1 := by
      rcases Nat.lt_trichotomy c.1 c'.1 with hlt | heq | hgt
      · have := hr c.1
        simp only [Memory.read, if_true, if_neg (show c'.1 ≠ c.1 by omega)] at this
        exact absurd (this.trans (read_below h'.2 (by omega))) h.1.2
      · exact heq
      · have := hr c'.1
        simp only [Memory.read, if_true, if_neg (show c.1 ≠ c'.1 by omega)] at this
        exact absurd (this.symm.trans (read_below h.2 (by omega))) h'.1.2
    have hb : c.2 = c'.2 := by simpa [Memory.read, hk] using hr c.1
    have hrest : rest = rest' := by
      refine ext_from h.2 (hk ▸ h'.2) fun a => ?_
      by_cases ha : c.1 = a
      · rw [read_below h.2 (by omega), read_below h'.2 (by omega)]
      · simpa [Memory.read, ha, show c'.1 ≠ a by omega] using hr a
    rw [hrest, Prod.ext hk hb]

/-- Two canonical memories that read the same are the same list. -/
theorem Memory.ext_of_wf {m m' : Memory} (h : Memory.wf m = true) (h' : Memory.wf m' = true)
    (hr : ∀ a, Memory.read m a = Memory.read m' a) : m = m' := ext_from h h' hr

end Sys2Proof.Machine
end

