-- ==== Sys2Proof/Laws/Backend.lean ====
section
/-!
SUPPORT. The transition table of the transfer machine (R190): one constructor per way a poll of an image drive can go, and the
lemma that a poll goes one of these ways. Invariants of polls are case analyses over it.
-/

namespace Sys2Proof.Machine

/-- How a poll of drive `d` with session `ses` can lead from `s` to `t` (R177 to R184, R190). -/
inductive PollOutcome (d : DriveIx) (ses : Session) (s : State) : State → Prop
  | throttled : ses.div + 1 < byteDivider →
      PollOutcome d ses s (s.setSession d { ses with div := ses.div + 1 })
  | idle : ses.st = .idle → PollOutcome d ses s (s.setSession d { ses with div := 0 })
  | notFoundCounts : ses.st = .notFound → ses.cnt - 1 ≠ 0 →
      PollOutcome d ses s (s.setSession d { ses with div := 0, cnt := ses.cnt - 1 })
  | notFoundEnds : ses.st = .notFound → ses.cnt - 1 = 0 →
      PollOutcome d ses s (cbNotFound (s.setSession d { ses with div := 0, cnt := ses.cnt - 1, st := .idle }))
  | readByte : ses.st = .read → ses.pos < ses.size → ses.cnt - 1 ≠ 0 →
      PollOutcome d ses s (cbDataReady (ses.img.read ses.pos)
        (s.setSession d { ses with div := 0, pos := ses.pos + 1, cnt := ses.cnt - 1 }))
  | readLast : ses.st = .read → ses.pos < ses.size → ses.cnt - 1 = 0 →
      PollOutcome d ses s (cbFinished (cbDataReady (ses.img.read ses.pos)
        (s.setSession d { ses with div := 0, pos := ses.pos + 1, cnt := ses.cnt - 1, st := .idle })))
  | writeProtected : ses.st = .write → ((s.drive d).wp || ses.swp) = true →
      PollOutcome d ses s (cbWriteProtect (s.setSession d { ses with div := 0, st := .idle }))
  | writeUnderrun : ses.st = .write → ((s.drive d).wp || ses.swp) = false → s.written = false →
      PollOutcome d ses s (s.setSession d { ses with div := 0 })
  | writeByte : ses.st = .write → ((s.drive d).wp || ses.swp) = false → s.written = true → ses.pos < ses.size →
      ses.cnt - 1 ≠ 0 →
      PollOutcome d ses s ((raiseDrq { s with written := false }).setSession d
        { ses with div := 0, img := ses.img.write ses.pos s.dat, pos := ses.pos + 1, cnt := ses.cnt - 1 })
  | writeLast : ses.st = .write → ((s.drive d).wp || ses.swp) = false → s.written = true → ses.pos < ses.size →
      ses.cnt = 1 →
      PollOutcome d ses s (cbFinished (({ s with written := false } : State).setSession d
        { ses with div := 0, img := ses.img.write ses.pos s.dat, pos := ses.pos + 1, cnt := 0, st := .idle }))
  | writeSpent : ses.st = .write → ((s.drive d).wp || ses.swp) = false → s.written = true → ses.pos < ses.size →
      ses.cnt = 0 →
      PollOutcome d ses s (cbFinished ((raiseDrq { s with written := false }).setSession d
        { ses with div := 0, img := ses.img.write ses.pos s.dat, pos := ses.pos + 1, cnt := 0, st := .idle }))
  | addrByte : ses.st = .addr → ses.stage < 6 →
      PollOutcome d ses s (cbDataReady (addressByte ses)
        (s.setSession d { ses with div := 0, stage := ses.stage + 1 }))
  | addrEnds : ses.st = .addr → ses.stage = 6 →
      PollOutcome d ses s (cbFinished
        (s.setSession d { ses with div := 0, st := .idle, asec := (ses.asec + 1) % ses.geo.spt }))
  | addrPast : ses.st = .addr → 6 < ses.stage → PollOutcome d ses s (s.setSession d { ses with div := 0 })
  | formatProtected : ses.st = .format → ((s.drive d).wp || ses.swp) = true →
      PollOutcome d ses s (cbWriteProtect (s.setSession d { ses with div := 0, st := .idle }))
  | formatSector : ses.st = .format → ((s.drive d).wp || ses.swp) = false →
      ses.pos + ses.geo.secsize ≤ ses.size → ses.cnt - 1 ≠ 0 →
      PollOutcome d ses s (s.setSession d
        { ses with div := 0, img := ses.img.fill ses.pos ses.geo.secsize filler,
                   pos := ses.pos + ses.geo.secsize, cnt := ses.cnt - 1 })
  | formatLast : ses.st = .format → ((s.drive d).wp || ses.swp) = false →
      ses.pos + ses.geo.secsize ≤ ses.size → ses.cnt - 1 = 0 →
      PollOutcome d ses s (cbFinished (s.setSession d
        { ses with div := 0, img := ses.img.fill ses.pos ses.geo.secsize filler,
                   pos := ses.pos + ses.geo.secsize, cnt := ses.cnt - 1, st := .idle }))

/-- The sector byte of a pointer that fits it is the pointer (R183). -/
theorem sectorByte_toNat {n : Nat} (h : n < 256) : (sectorByte n).toNat = n := by
  simp [sectorByte, h, Nat.mod_eq_of_lt h]

/-- The sector byte of a pointer that does not fit is the free value (log 23). -/
theorem sectorByte_wide {n : Nat} (h : 256 ≤ n) : sectorByte n = wideSector n := if_neg (Nat.not_lt.mpr h)

/-- Putting a second session into a drive replaces the first. -/
@[simp] theorem setSession_setSession (s : State) (d : DriveIx) (a b : Session) :
    (s.setSession d a).setSession d b = s.setSession d b := by cases d <;> rfl

/-- The write-protect test does not look at the session in the drive, only at its flag (R186). -/
@[simp] theorem isProtected_setSession (s : State) (d : DriveIx) (a b : Session) :
    isProtected d a (s.setSession d b) = ((s.drive d).wp || a.swp) := by simp [isProtected]

/-- What a pull does: underrun, the last byte, or a byte with a new request (R206). -/
theorem cbPull_cases (last : Bool) (s : State) :
    (s.written = false ∧ cbPull last s = none) ∨
    (s.written = true ∧ last = true ∧ cbPull last s = some (s.dat, { s with written := false })) ∨
    (s.written = true ∧ last = false ∧ cbPull last s = some (s.dat, raiseDrq { s with written := false })) := by
  unfold cbPull; cases s.written <;> cases last <;> simp

/-- A poll of an image drive goes one of the ways of the transition table (R190). -/
theorem pollSession_cases {d : DriveIx} {ses : Session} {s t : State} (h : pollSession d ses s = .next t) :
    PollOutcome d ses s t := by
  unfold pollSession at h
  split at h
  · rename_i hd; cases h; exact .throttled hd
  · unfold dividedTick at h
    split at h <;> rename_i hst
    · cases h; exact .idle hst
    · unfold notFoundTick at h
      split at h <;> rename_i hc <;> simp only [setSession_setSession] at h <;> cases h
      · exact .notFoundEnds hst hc
      · exact .notFoundCounts hst hc
    · unfold readTick imgRead at h
      by_cases hp : ses.pos < ses.size
      · simp only [Session.size] at hp h
        simp only [hp, if_true, setSession_setSession] at h
        split at h <;> rename_i hc <;> cases h
        · exact .readLast hst hp hc
        · exact .readByte hst hp hc
      · simp only [Session.size] at hp h
        simp only [hp, if_false] at h
        cases h
    · unfold writeTick at h
      simp only [isProtected_setSession, setSession_setSession] at h
      split at h <;> rename_i hw
      · cases h; exact .writeProtected hst hw
      · have hw' := Bool.eq_false_iff.2 hw
        rcases cbPull_cases (decide (ses.cnt = 1)) (s.setSession d { ses with div := 0 }) with
          ⟨hwr, hp⟩ | ⟨hwr, hl, hp⟩ | ⟨hwr, hl, hp⟩ <;> rw [hp] at h <;> dsimp only at h
        · cases h; exact .writeUnderrun hst hw' hwr
        · unfold imgWrite at h
          have hc : ses.cnt = 1 := by simpa using hl
          by_cases hpos : ses.pos < ses.size
          · simp only [Session.size] at hpos h
            simp only [hpos, if_true, hc] at h
            simp only [Nat.sub_self] at h
            cases h
            have := PollOutcome.writeLast (d := d) (ses := ses) (s := s) hst hw' hwr hpos hc
            cases d <;> exact this
          · simp only [Session.size] at hpos h
            simp only [hpos, if_false] at h; cases h
        · unfold imgWrite at h
          have hc : ses.cnt ≠ 1 := by simpa using hl
          by_cases hpos : ses.pos < ses.size
          · simp only [Session.size] at hpos h
            simp only [hpos, if_true] at h
            split at h <;> rename_i hc0 <;> cases h
            · have hz : ses.cnt = 0 := by omega
              have := PollOutcome.writeSpent (d := d) (ses := ses) (s := s) hst hw' hwr hpos hz
              rw [hz]
              cases d <;> exact this
            · have := PollOutcome.writeByte (d := d) (ses := ses) (s := s) hst hw' hwr hpos hc0
              cases d <;> exact this
          · simp only [Session.size] at hpos h
            simp only [hpos, if_false] at h; cases h
    · unfold addrTick at h
      simp only [setSession_setSession] at h
      split at h <;> rename_i h6
      · cases h; exact .addrByte hst h6
      · split at h <;> rename_i h6' <;> cases h
        · exact .addrEnds hst h6'
        · exact .addrPast hst (by omega)
    · unfold formatTick at h
      simp only [isProtected_setSession, setSession_setSession] at h
      split at h <;> rename_i hw
      · cases h; exact .formatProtected hst hw
      · have hw' := Bool.eq_false_iff.2 hw
        unfold imgFill at h
        by_cases hpos : ses.pos + ses.geo.secsize ≤ ses.size
        · simp only [Session.size] at hpos h
          simp only [hpos, if_true] at h
          split at h <;> rename_i hc <;> cases h
          · exact .formatLast hst hw' hpos hc
          · exact .formatSector hst hw' hpos hc
        · simp only [Session.size] at hpos h
          simp only [hpos, if_false] at h; cases h

/-- A poll of any drive: nothing without an image, else the transition table (R158, R190). -/
theorem backendPoll_cases {d : DriveIx} {s t : State} (h : backendPoll d s = .next t) :
    ((∀ ses, (s.drive d).bound ≠ .image ses) ∧ t = s) ∨
    ∃ ses, (s.drive d).bound = .image ses ∧ PollOutcome d ses s t := by
  unfold backendPoll at h
  split at h <;> rename_i hb
  · exact .inr ⟨_, hb, pollSession_cases h⟩
  · cases h; exact .inl ⟨by simp [hb], rfl⟩
  · cases h; exact .inl ⟨by simp [hb], rfl⟩

/-- A read answers a byte exactly inside the image (R48). -/
theorem imgRead_eq_none {ses : Session} {off : Nat} (h : imgRead ses off = none) : ses.size ≤ off := by
  unfold imgRead at h
  split at h
  · cases h
  · omega

/-- A store goes through exactly inside the image (R49). -/
theorem imgWrite_eq_none {ses : Session} {off : Nat} {b : Byte} (h : imgWrite ses off b = none) : ses.size ≤ off := by
  unfold imgWrite at h
  split at h
  · cases h
  · omega

/-- A fill goes through exactly inside the image (R49, R184). -/
theorem imgFill_eq_none {ses : Session} {off n : Nat} {b : Byte} (h : imgFill ses off n b = none) :
    ses.size < off + n := by
  unfold imgFill at h
  split at h
  · cases h
  · omega

/-- A poll faults only where a running transfer has left its image (R47, log 12). -/
theorem backendPoll_fault {d : DriveIx} {s : State} {f : Fault} (h : backendPoll d s = .fault f) :
    ∃ ses, (s.drive d).bound = .image ses ∧
      ((ses.st = .read ∧ ses.size ≤ ses.pos) ∨ (ses.st = .write ∧ ses.size ≤ ses.pos) ∨
        (ses.st = .format ∧ ses.size < ses.pos + ses.geo.secsize)) := by
  unfold backendPoll at h
  split at h
  · rename_i ses hb
    refine ⟨ses, hb, ?_⟩
    unfold pollSession at h
    split at h
    · cases h
    · unfold dividedTick at h
      split at h <;> rename_i hst
      · cases h
      · unfold notFoundTick at h
        split at h <;> cases h
      · unfold readTick at h
        split at h
        · rename_i hn; exact .inl ⟨hst, imgRead_eq_none hn⟩
        · split at h <;> cases h
      · unfold writeTick at h
        split at h
        · cases h
        · split at h
          · cases h
          · split at h
            · rename_i hn; exact .inr (.inl ⟨hst, imgWrite_eq_none (ses := { ses with div := 0 }) hn⟩)
            · split at h <;> cases h
      · unfold addrTick at h
        split at h
        · cases h
        · split at h <;> cases h
      · unfold formatTick at h
        split at h
        · cases h
        · split at h
          · rename_i hn; exact .inr (.inr ⟨hst, imgFill_eq_none (ses := { ses with div := 0 }) hn⟩)
          · split at h <;> cases h
  · cases h
  · cases h

end Sys2Proof.Machine
end

