-- ==== Sys2Proof/Laws/Busy.lean ====
section
/-!
SUPPORT. What each shared operation does to BUSY (R225): only `PAT_POSITION` and `PAT_TRANSFER` set it, the ends of an
operation clear it, the rest keeps it.
-/

namespace Sys2Proof.Machine

/-- Clearing another flag keeps BUSY (R6). -/
theorem busy_clearBit (s : State) {n : Nat} (hn : n ≠ stBusy) : (clearBit s.sts n).getLsbD stBusy = s.busy := by
  rw [getLsbD_clearBit, decide_eq_true (Ne.symm hn), Bool.and_true, busy_eq]

/-- Setting another flag keeps BUSY (R6). -/
theorem busy_setBit (s : State) {n : Nat} (hn : n ≠ stBusy) : (setBit s.sts n).getLsbD stBusy = s.busy := by
  rw [getLsbD_setBit, decide_eq_false (Ne.symm hn), Bool.and_false, Bool.or_false, busy_eq]

@[simp] theorem busy_cbFinished (s : State) : (cbFinished s).busy = false := by
  rw [busy_eq, cbFinished_sts, busy_patDone]
@[simp] theorem busy_cbNotFound (s : State) : (cbNotFound s).busy = false := by
  rw [busy_eq, cbNotFound_sts, clearMotor_patNotFound, busy_patNotFound]
@[simp] theorem busy_cbWriteProtect (s : State) : (cbWriteProtect s).busy = false := by
  rw [busy_eq, cbWriteProtect_sts, clearMotor_patWrProt, busy_patWrProt]
@[simp] theorem busy_cbDataCrcError (s : State) : (cbDataCrcError s).busy = false := by
  rw [busy_eq, cbDataCrcError_sts, clearMotor_patDataCrc, busy_patDataCrc]
@[simp] theorem busy_cbHeaderCrcError (s : State) : (cbHeaderCrcError s).busy = false := by
  rw [busy_eq, cbHeaderCrcError_sts, clearMotor_patHeadCrc, busy_patHeadCrc]
@[simp] theorem busy_cbDataReady (b : Byte) (s : State) : (cbDataReady b s).busy = s.busy := by
  rw [busy_eq, cbDataReady_sts]; exact busy_setBit s (by simp)
@[simp] theorem busy_raiseDrq (s : State) : (raiseDrq s).busy = s.busy := by
  rw [busy_eq, raiseDrq_sts]; exact busy_setBit s (by simp)
@[simp] theorem busy_ackDrq (s : State) : (ackDrq s).busy = s.busy := by
  rw [busy_eq, ackDrq_sts]; exact busy_clearBit s (by simp)
@[simp] theorem busy_setSession (s : State) (d : DriveIx) (ses : Session) : (s.setSession d ses).busy = s.busy := rfl

/-- The motor's step keeps BUSY (R223). -/
@[simp] theorem busy_motorStep (s : State) : (motorStep s).busy = s.busy := by
  unfold motorStep
  split
  · split
    · rw [busy_eq]; exact busy_clearBit s (by simp)
    · rfl
  · rfl

/-- The status that Force Interrupt leaves, in either mode (R120). -/
theorem forceStatus_busy {s : State} (h : s.sts.getLsbD stBusy = true) : forceStatus s = clearBit s.sts stBusy := by
  unfold forceStatus; rw [busy_eq, if_pos h]
theorem forceStatus_idle {s : State} (h : s.sts.getLsbD stBusy = false) : forceStatus s = patIdle s.trk := by
  unfold forceStatus; rw [busy_eq, h]; rfl

/-- Force Interrupt leaves the controller idle (R120). -/
@[simp] theorem busy_forceIntRule (s : State) : (forceIntRule s).busy = false := by
  rw [busy_eq]
  show (forceStatus s).getLsbD stBusy = false
  unfold forceStatus
  split
  · rw [getLsbD_clearBit]; simp
  · exact busy_patIdle _

end Sys2Proof.Machine
end

