-- ==== Sys2Proof/Laws/Commands.lean ====
section
/-!
SUPPORT. Every command is the acceptance of its byte followed by its class's rule (R80): one equation for all of them.
-/

namespace Sys2Proof.Machine

/-- The rule of a command's class, what follows acceptance (R84 to R88, R101 to R105, R120, R122). -/
def classRule : Instr → State → Result
  | .restore _ => positionTo 0#8
  | .seek _ => fun s => positionTo s.dat s
  | .step _ => fun s => positionTo (stepTrack s.stepdir s.trk) s
  | .stepIn _ => fun s => positionTo (stepTrack .inward s.trk) { s with stepdir := .inward }
  | .stepOut _ => fun s => positionTo (stepTrack .outward s.trk) { s with stepdir := .outward }
  | .readSector _ => startTransfer .readSector
  | .writeSectorA flags => writeSectorRule (encode (.writeSectorA flags))
  | .writeSectorB flags => writeSectorRule (encode (.writeSectorB flags))
  | .readAddress _ => startTransfer .readAddress
  | .forceInt _ => fun s => .next (forceIntRule s)
  | .invalid _ => fun s => .next (complete .badCmd patNotFound spinDownNow s)
  | .writeTrack _ => startTransfer .format

/-- A command's meaning is acceptance, then the rule of its class (R80). -/
theorem exec_eq_accept (i : Instr) (s : State) : exec i s = acceptCommand (encode i) (classRule i) s := by
  cases i <;> rfl

/-- A command accepted while idle (R80, R81). -/
theorem exec_idle {i : Instr} {s : State} (hb : s.busy = false) (hi : ∀ flags, i ≠ .forceInt flags) :
    exec i s = classRule i (spinUp { s with cmd := encode i }) := by
  rw [exec_eq_accept]; exact acceptCommand_idle hb (opOf_ne_forceInt hi)

/-- Force Interrupt in either mode (R120). -/
theorem exec_forceInt (flags : BitVec 4) (s : State) :
    exec (.forceInt flags) s = .next (forceIntRule { s with cmd := encode (.forceInt flags) }) := by
  rw [exec_eq_accept, acceptCommand_force (opOf_forceInt flags)]; rfl

/-- What a command can do: nothing, while busy; its class's rule, after acceptance (R80). -/
theorem exec_cases (i : Instr) (s : State) :
    (s.busy = true ∧ exec i s = .next s) ∨
    (s.busy = false ∧ exec i s = classRule i (spinUp { s with cmd := encode i })) ∨
    ∃ flags, i = .forceInt flags := by
  by_cases hi : ∀ flags, i ≠ .forceInt flags
  · cases hb : s.busy
    · exact .inr (.inl ⟨rfl, exec_idle hb hi⟩)
    · rw [exec_eq_accept]; exact .inl ⟨rfl, acceptCommand_busy hb (opOf_ne_forceInt hi)⟩
  · exact .inr (.inr (by simpa using hi))

/-- The state a positioning command leaves (R82). -/
def positionState (t : Byte) (s : State) : State :=
  recordSeek s.drv t.toNat { s with trk := t, sts := patPosition t }

/-- A positioning command on a drive that holds no alternate backend (R82, R152). -/
theorem positionTo_next {t : Byte} {s : State} (h : (s.drive s.drv).bound ≠ .alt) :
    positionTo t s = .next (positionState t s) := dispatchSeek_next h

/-- A positioning command on a drive that holds one is refused (R151). -/
theorem positionTo_alt {t : Byte} {s : State} (h : (s.drive s.drv).bound = .alt) :
    positionTo t s = .refused .altBackend := dispatchSeek_alt h

/-- A positioning command either is taken or refused (R82, R151). -/
theorem positionTo_cases (t : Byte) (s : State) :
    ((s.drive s.drv).bound ≠ .alt ∧ positionTo t s = .next (positionState t s)) ∨
    ((s.drive s.drv).bound = .alt ∧ positionTo t s = .refused .altBackend) := by
  by_cases h : (s.drive s.drv).bound = .alt
  · exact .inr ⟨h, positionTo_alt h⟩
  · exact .inl ⟨h, positionTo_next h⟩

/-- The drives after a positioning command (R82, R152). -/
theorem positionState_drive (t : Byte) (s : State) (j : DriveIx) :
    (positionState t s).drive j = if j = s.drv then { s.drive s.drv with curtrk := t.toNat } else s.drive j :=
  recordSeek_drive s.drv j t.toNat _

/-- A transfer's class rule that answers a next state has written `PAT_TRANSFER` and started (R100). -/
theorem startTransfer_cases {k : Transfer} {s t : State} (h : startTransfer k s = .next t) :
    (∃ ses, (s.drive s.drv).bound = .image ses ∧
      t = ({ s with sts := patTransfer } : State).setSession s.drv
        (beginTransfer k (s.drive s.drv).curtrk (requestOf s) ses)) ∨
    ((s.drive s.drv).bound = .empty ∧ t = { s with sts := patTransfer, nfCount := notFoundTicks }) :=
  dispatchTransfer_cases h

/-- A transfer on an image drive starts it. -/
theorem startTransfer_image {k : Transfer} {s : State} {ses : Session} (h : (s.drive s.drv).bound = .image ses) :
    startTransfer k s = .next (({ s with sts := patTransfer } : State).setSession s.drv
      (beginTransfer k (s.drive s.drv).curtrk (requestOf s) ses)) := by
  have h' : (State.drive { s with sts := patTransfer } s.drv).bound = .image ses := h
  simp only [startTransfer, dispatchTransfer, h']
  rfl

/-- A transfer on an empty drive starts the dispatch countdown (R157). -/
theorem startTransfer_empty {k : Transfer} {s : State} (h : (s.drive s.drv).bound = .empty) :
    startTransfer k s = .next { s with sts := patTransfer, nfCount := notFoundTicks } := by
  have h' : (State.drive { s with sts := patTransfer } s.drv).bound = .empty := h
  simp only [startTransfer, dispatchTransfer, h']

/-- A transfer on an alternate backend is refused (R153). -/
theorem startTransfer_alt {k : Transfer} {s : State} (h : (s.drive s.drv).bound = .alt) :
    startTransfer k s = .refused .altBackend := by
  have h' : (State.drive { s with sts := patTransfer } s.drv).bound = .alt := h
  simp only [startTransfer, dispatchTransfer, h']

/-- The fall-through touches the status only (R103). -/
theorem writeFallThrough_eq (v : Byte) (s : State) :
    writeFallThrough v s = { s with sts := if opOf v = wsQuirkNibble then patTransfer else s.sts } := rfl

end Sys2Proof.Machine
end

