-- ==== Sys2Proof/Laws/Images.lean ====
section
/-!
SUPPORT. Reading one byte of an image after an operation, and the guards of a request as one equivalence.
-/

namespace Sys2Proof.Machine

/-- A read depends on the image and its geometry only (R48). -/
theorem imgRead_congr {a b : Session} (hi : a.img = b.img) (hg : a.geo = b.geo) (off : Nat) :
    imgRead a off = imgRead b off := by
  unfold imgRead Session.size; rw [hi, hg]

/-- The byte read through a drive that holds an image. -/
theorem imageByte_image {s : State} {d : DriveIx} {ses : Session} (h : (s.drive d).bound = .image ses) (a : Nat) :
    imageByte s d a = imgRead ses a := by simp [imageByte, h]

/-- What is read depends on the bindings only. -/
theorem imageByte_congr {s t : State} {d : DriveIx} (h : (t.drive d).bound = (s.drive d).bound) (a : Nat) :
    imageByte t d a = imageByte s d a := by simp [imageByte, h]

/-- Reading after a session was put into a drive. -/
theorem imageByte_setSession (s : State) (d j : DriveIx) (ses : Session) (a : Nat) :
    imageByte (s.setSession d ses) j a = if j = d then imgRead ses a else imageByte s j a := by
  by_cases h : j = d
  · subst h; simp [imageByte]
  · simp only [imageByte, drive_setSession_other s ses h, if_neg h]

theorem SameImages.refl (s : State) : SameImages s s := fun _ _ => rfl

theorem SameImages.trans {s t u : State} (h : SameImages s t) (h' : SameImages t u) : SameImages s u :=
  fun d a => (h' d a).trans (h d a)

/-- The same bindings read the same. -/
theorem SameImages.of_bound {s t : State} (h : ∀ d, (t.drive d).bound = (s.drive d).bound) : SameImages s t :=
  fun d a => imageByte_congr (h d) a

/-- A session that keeps image and geometry keeps every byte. -/
theorem SameImages.of_session {s : State} {d : DriveIx} {ses ses' : Session}
    (hb : (s.drive d).bound = .image ses) (hi : ses'.img = ses.img) (hg : ses'.geo = ses.geo) :
    SameImages s (s.setSession d ses') := by
  intro j a
  rw [imageByte_setSession]
  split
  · rename_i h; subst h; rw [imageByte_image hb]; exact imgRead_congr hi hg a
  · rfl

/-- A session whose image had one byte stored reads that byte there, and every other byte of both images as before (R49). -/
theorem imageByte_store {s : State} {d : DriveIx} {ses ses' : Session} {off : Nat} {b : Byte}
    (hb : (s.drive d).bound = .image ses) (hg : ses'.geo = ses.geo) (hi : ses'.img = ses.img.write off b)
    (hwf : ses.img.wf = true) (ho : off < ses.size) (j : DriveIx) (a : Nat) :
    imageByte (s.setSession d ses') j a = if j = d ∧ a = off then some b else imageByte s j a := by
  rw [imageByte_setSession]
  by_cases hj : j = d
  · subst hj
    rw [imageByte_image hb]
    unfold imgRead Session.size at *
    rw [hg, hi, read_write _ _ _ hwf]
    by_cases ha : a = off
    · subst ha; simp [ho]
    · simp only [ha, if_true, and_false, if_false]
  · simp [hj]

/-- A session whose image had a run of bytes filled reads the filler there, and every other byte of both images as before
(R184). -/
theorem imageByte_fill {s : State} {d : DriveIx} {ses ses' : Session} {off n : Nat} {b : Byte}
    (hb : (s.drive d).bound = .image ses) (hg : ses'.geo = ses.geo) (hi : ses'.img = ses.img.fill off n b)
    (hwf : ses.img.wf = true) (ho : off + n ≤ ses.size) (j : DriveIx) (a : Nat) :
    imageByte (s.setSession d ses') j a =
      if j = d ∧ off ≤ a ∧ a < off + n then some b else imageByte s j a := by
  rw [imageByte_setSession]
  by_cases hj : j = d
  · subst hj
    rw [imageByte_image hb]
    unfold imgRead Session.size at *
    rw [hg, hi, read_fill _ _ _ _ hwf]
    by_cases ha : off ≤ a ∧ a < off + n
    · have : a < ses.geo.imageLength := by omega
      simp [ha, this]
    · simp only [ha, if_true, and_false, if_false]
  · simp [hj]

/-- Abort keeps every byte of the images (R185). -/
theorem SameImages.abortAll (s : State) : SameImages s (abortAll s) := by
  intro d a
  cases h : (s.drive d).bound with
  | image ses =>
    rw [imageByte_image h, imageByte_image (ses := ses.stop) (by simp [h])]
    exact imgRead_congr rfl rfl a
  | empty => simp [imageByte, h]
  | alt => simp [imageByte, h]

/-- The guards that the model tests are the guards of R172. -/
theorem guardsHold_iff (k : Transfer) (s : State) (ses : Session) :
    guardsHold k ses (s.drive s.drv).curtrk (requestOf s) = true ↔ GuardsPass s ses k.hasSector := by
  have hd : densityMatches s.dens ses.geo.density = true ↔
      ((s.dens = false ∧ ses.geo.density = .singleD) ∨
        (s.dens = true ∧ (ses.geo.density = .doubleD ∨ ses.geo.density = .quadD))) := by
    cases s.dens <;> cases ses.geo.density <;> simp [densityMatches]
  unfold guardsHold requestOf
  dsimp only
  simp only [Bool.and_eq_true, decide_eq_true_eq, Bool.or_eq_true, Bool.not_eq_true', hd]
  constructor
  · rintro ⟨⟨⟨⟨⟨h1, h2⟩, h3⟩, h4⟩, h5⟩, h6⟩
    exact ⟨h1, h2, h3, h4, fun hk => h5.resolve_left (by simp [hk]), h6⟩
  · rintro ⟨h1, h2, h3, h4, h5, h6⟩
    refine ⟨⟨⟨⟨⟨h1, h2⟩, h3⟩, h4⟩, ?_⟩, h6⟩
    cases hk : k.hasSector
    · exact .inl rfl
    · exact .inr (h5 hk)

end Sys2Proof.Machine
end

