-- ==== Sys2Proof/Laws/Outcomes.lean ====
section
/-!
SUPPORT. What the parts of a step can do, said once each: a command, a Tick, a step. Rules of the whole machine are case
analyses over these.
-/

namespace Sys2Proof.Machine

/-- How a command `i` that answers a next state leads from `s` to it (R80 to R122); `a` is the state right after acceptance. -/
inductive CommandOutcome (i : Instr) (s a : State) : State → Prop
  | ignored : s.busy = true → CommandOutcome i s a s
  | positioned (new : Byte) (dir : StepDir) : s.busy = false → (s.drive s.drv).bound ≠ .alt →
      (opOf (encode i)).toNat ≤ 7 → CommandOutcome i s a (positionState new { a with stepdir := dir })
  | started (k : Transfer) (ses : Session) : s.busy = false → (s.drive s.drv).bound = .image ses →
      8 ≤ (opOf (encode i)).toNat → opOf (encode i) ≠ 0xD#4 → opOf (encode i) ≠ 0xE#4 →
      CommandOutcome i s a (({ a with sts := patTransfer } : State).setSession s.drv
        (beginTransfer k (s.drive s.drv).curtrk (requestOf s) ses))
  | declined : s.busy = false → (s.drive s.drv).bound = .empty →
      8 ≤ (opOf (encode i)).toNat → opOf (encode i) ≠ 0xD#4 → opOf (encode i) ≠ 0xE#4 →
      CommandOutcome i s a { a with sts := patTransfer, nfCount := notFoundTicks }
  | writeStarted (ses : Session) : s.busy = false → (s.drive s.drv).bound = .image ses →
      8 ≤ (opOf (encode i)).toNat → opOf (encode i) ≠ 0xD#4 → opOf (encode i) ≠ 0xE#4 →
      CommandOutcome i s a (writeFallThrough (encode i) { raiseDrq (({ a with sts := patTransfer } : State).setSession s.drv
        (beginTransfer .writeSector (s.drive s.drv).curtrk (requestOf s) ses)) with written := false })
  | writeDeclined : s.busy = false → (s.drive s.drv).bound = .empty →
      8 ≤ (opOf (encode i)).toNat → opOf (encode i) ≠ 0xD#4 → opOf (encode i) ≠ 0xE#4 →
      CommandOutcome i s a (writeFallThrough (encode i)
        { raiseDrq { a with sts := patTransfer, nfCount := notFoundTicks } with written := false })
  | forced : opOf (encode i) = 0xD#4 → CommandOutcome i s a (forceIntRule { s with cmd := encode i })
  | invalid : s.busy = false → opOf (encode i) = 0xE#4 →
      CommandOutcome i s a (complete .badCmd patNotFound spinDownNow a)

/-- The state right after the acceptance of a command other than Force Interrupt (R80, R81). -/
def accepted (i : Instr) (s : State) : State := spinUp { s with cmd := encode i }

/-- The class of a command, as the rows group them. -/
theorem class_positioning {i : Instr} (h : match i with
    | .restore _ | .seek _ | .step _ | .stepIn _ | .stepOut _ => True
    | _ => False) : (opOf (encode i)).toNat ≤ 7 := by
  cases i with
  | restore f => revert f; decide
  | seek f => revert f; decide
  | step f => revert f; decide
  | stepIn f => revert f; decide
  | stepOut f => revert f; decide
  | _ => exact h.elim

/-- The class of a transfer command. -/
theorem class_transfer {i : Instr} (h : match i with
    | .readSector _ | .writeSectorA _ | .writeSectorB _ | .readAddress _ | .writeTrack _ => True
    | _ => False) : 8 ≤ (opOf (encode i)).toNat ∧ opOf (encode i) ≠ 0xD#4 ∧ opOf (encode i) ≠ 0xE#4 := by
  cases i with
  | readSector f => revert f; decide
  | writeSectorA f => revert f; decide
  | writeSectorB f => revert f; decide
  | readAddress f => revert f; decide
  | writeTrack f => revert f; decide
  | _ => exact h.elim

/-- A positioning command that answers a next state (R82). -/
theorem positioned_outcome {i : Instr} {new : Byte} {dir : StepDir} {s t : State} (hb : s.busy = false)
    (hc : (opOf (encode i)).toNat ≤ 7) (h : positionTo new { accepted i s with stepdir := dir } = .next t) :
    CommandOutcome i s (accepted i s) t := by
  obtain ⟨ha, e⟩ | ⟨_, e⟩ := positionTo_cases new { accepted i s with stepdir := dir }
  · rw [e] at h; cases h; exact .positioned new dir hb ha hc
  · rw [e] at h; cases h

/-- A start without more (R101, R104, R105). -/
theorem started_outcome {i : Instr} {k : Transfer} {s t : State} (hb : s.busy = false)
    (hc : 8 ≤ (opOf (encode i)).toNat ∧ opOf (encode i) ≠ 0xD#4 ∧ opOf (encode i) ≠ 0xE#4)
    (h : startTransfer k (accepted i s) = .next t) : CommandOutcome i s (accepted i s) t := by
  obtain ⟨ses, hs, rfl⟩ | ⟨hs, rfl⟩ := startTransfer_cases h
  · exact .started k ses hb hs hc.1 hc.2.1 hc.2.2
  · exact .declined hb hs hc.1 hc.2.1 hc.2.2

/-- A write's start (R102, R103). -/
theorem writeStarted_outcome {i : Instr} {s t : State} (hb : s.busy = false)
    (hc : 8 ≤ (opOf (encode i)).toNat ∧ opOf (encode i) ≠ 0xD#4 ∧ opOf (encode i) ≠ 0xE#4)
    (h : writeSectorRule (encode i) (accepted i s) = .next t) : CommandOutcome i s (accepted i s) t := by
  obtain ⟨u, hu, ht⟩ := andThen_eq_next.1 h
  cases ht
  obtain ⟨ses, hs, rfl⟩ | ⟨hs, rfl⟩ := startTransfer_cases hu
  · exact .writeStarted ses hb hs hc.1 hc.2.1 hc.2.2
  · exact .writeDeclined hb hs hc.1 hc.2.1 hc.2.2

/-- Everything a command that answers a next state can do. -/
theorem exec_outcome {i : Instr} {s t : State} (h : exec i s = .next t) : CommandOutcome i s (accepted i s) t := by
  rcases exec_cases i s with ⟨hb, e⟩ | ⟨hb, e⟩ | ⟨flags, rfl⟩
  · rw [e] at h; cases h; exact .ignored hb
  · rw [e] at h
    cases i with
    | restore f => exact positioned_outcome (dir := s.stepdir) hb (class_positioning trivial) h
    | seek f => exact positioned_outcome (dir := s.stepdir) hb (class_positioning trivial) h
    | step f => exact positioned_outcome (dir := s.stepdir) hb (class_positioning trivial) h
    | stepIn f => exact positioned_outcome (dir := .inward) hb (class_positioning trivial) h
    | stepOut f => exact positioned_outcome (dir := .outward) hb (class_positioning trivial) h
    | readSector f => exact started_outcome hb (class_transfer trivial) h
    | writeSectorA f => exact writeStarted_outcome hb (class_transfer trivial) h
    | writeSectorB f => exact writeStarted_outcome hb (class_transfer trivial) h
    | readAddress f => exact started_outcome hb (class_transfer trivial) h
    | forceInt f =>
      rw [← e, exec_forceInt] at h; cases h
      exact .forced (opOf_forceInt f)
    | invalid f =>
      cases h
      have hop : opOf (encode (.invalid f)) = 0xE#4 := by clear e; revert f; decide
      exact .invalid hb hop
    | writeTrack f => exact started_outcome hb (class_transfer trivial) h
  · rw [exec_forceInt] at h; cases h
    exact .forced (opOf_forceInt flags)

/-- A command never faults: it stops, if at all, by the refusal of an alternate backend (R153). -/
theorem exec_no_fault (i : Instr) (s : State) (f : Fault) : exec i s ≠ .fault f := by
  have hst : ∀ k u, startTransfer k u ≠ .fault f := by
    intro k u h
    unfold startTransfer dispatchTransfer at h
    split at h <;> cases h
  have hwr : ∀ v u, writeSectorRule v u ≠ .fault f := by
    intro v u h
    rcases andThen_eq_fault.1 h with h | ⟨_, _, h⟩
    · exact hst _ _ h
    · cases h
  have hpo : ∀ v u, positionTo v u ≠ .fault f := by
    intro v u h
    obtain ⟨_, e⟩ | ⟨_, e⟩ := positionTo_cases v u <;> rw [e] at h <;> cases h
  rcases exec_cases i s with ⟨_, e⟩ | ⟨_, e⟩ | ⟨flags, rfl⟩
  · rw [e]; exact fun h => by cases h
  · rw [e]
    cases i <;> intro h <;> first | exact hst _ _ h | exact hwr _ _ h | exact hpo _ _ h | cases h
  · rw [exec_forceInt]; exact fun h => by cases h

/-- A Tick is the two polls, the two countdowns and the motor's step, in this order (R158, R230). -/
theorem tick_cases {s t : State} (h : tick s = .next t) :
    ∃ u v, backendPoll .d0 s = .next u ∧ backendPoll .d1 u = .next v ∧ t = motorStep (seekStep (nfStep v)) := by
  obtain ⟨w, hw, ht⟩ := andThen_eq_next.1 h
  obtain ⟨u, hu, hw⟩ := andThen_eq_next.1 hw
  obtain ⟨v, hv, hw⟩ := andThen_eq_next.1 hw
  cases hw; cases ht
  exact ⟨u, v, hu, hv, rfl⟩

/-- A poll of one drive leaves the other drive alone (R158). -/
theorem poll_other {d j : DriveIx} {u v : State} (h : backendPoll d u = .next v) (hj : j ≠ d) :
    v.drive j = u.drive j := by
  obtain ⟨_, rfl⟩ | ⟨ses, _, ho⟩ := backendPoll_cases h
  · rfl
  · have key : ∀ (w : State) (x : Session), (w.setSession d x).drive j = w.drive j :=
      fun w x => drive_setSession_other w x hj
    cases ho <;> exact key _ _

/-- A poll changes neither the write-protect flag nor the head of a drive (R190). -/
theorem poll_wp_curtrk {d : DriveIx} {u v : State} (h : backendPoll d u = .next v) (j : DriveIx) :
    (v.drive j).wp = (u.drive j).wp ∧ (v.drive j).curtrk = (u.drive j).curtrk := by
  by_cases hj : j = d
  · subst hj
    obtain ⟨_, rfl⟩ | ⟨ses, _, ho⟩ := backendPoll_cases h
    · exact ⟨rfl, rfl⟩
    · have key : ∀ (w : State) (x : Session), ((w.setSession j x).drive j).wp = (w.drive j).wp ∧
          ((w.setSession j x).drive j).curtrk = (w.drive j).curtrk := fun w x => by simp
      cases ho <;> exact key _ _
  · rw [poll_other h hj]; exact ⟨rfl, rfl⟩

/-- The countdowns and the motor touch no drive (R158, R223). -/
@[simp] theorem nfStep_drive (s : State) (j : DriveIx) : (nfStep s).drive j = s.drive j := by
  unfold nfStep
  split
  · split <;> rfl
  · rfl
@[simp] theorem seekStep_drive (s : State) (j : DriveIx) : (seekStep s).drive j = s.drive j := by
  unfold seekStep
  split
  · split <;> rfl
  · rfl
@[simp] theorem motorStep_drive (s : State) (j : DriveIx) : (motorStep s).drive j = s.drive j := by
  unfold motorStep
  split
  · split <;> rfl
  · rfl

/-- What every part of a Tick keeps, the Tick keeps. -/
theorem tick_induct {P : State → Prop} {s t : State} (h : tick s = .next t) (hs : P s)
    (poll : ∀ d u v, P u → backendPoll d u = .next v → P v) (nf : ∀ u, P u → P (nfStep u))
    (seek : ∀ u, P u → P (seekStep u)) (motor : ∀ u, P u → P (motorStep u)) : P t := by
  obtain ⟨u, v, hu, hv, rfl⟩ := tick_cases h
  exact motor _ (seek _ (nf _ (poll .d1 u v (poll .d0 s u hs hu) hv)))

/-- What a step does, by its next action: a state of the queue's kind only, then that action (R4). -/
theorem step_cases {s t : State} (h : step s = .next t) :
    ∃ a s', nextAction s = (a, s') ∧ perform a s' = .next t ∧ (∀ d, s'.drive d = s.drive d) ∧
      ∃ q, s' = { s with inbox := q } := by
  refine ⟨(nextAction s).1, (nextAction s).2, rfl, h, ?_⟩
  unfold nextAction
  cases hq : s.inbox with
  | nil => exact ⟨fun _ => rfl, s.inbox, rfl⟩
  | cons a rest => exact ⟨fun d => by cases d <;> rfl, rest, rfl⟩

/-- How an action that answers a next state leads from `s` to it (R4, R69). -/
inductive ActionOutcome (s : State) : Action → State → Prop
  | readSts : ActionOutcome s (.read (.chip 0)) (ackDone { s with hostRead := s.sts })
  | readTrk : ActionOutcome s (.read (.chip 1)) { s with hostRead := s.trk }
  | readSec : ActionOutcome s (.read (.chip 2)) { s with hostRead := s.sec }
  | readDat : ActionOutcome s (.read (.chip 3)) (ackDrq { s with hostRead := s.dat })
  | readCtl : ActionOutcome s (.read .control) { s with hostRead := freeByte s.freeCount, freeCount := s.freeCount + 1 }
  | command (v : Byte) (t : State) : exec (decode v) s = .next t → ActionOutcome s (.write (.chip 0) v) t
  | writeTrk (v : Byte) : ActionOutcome s (.write (.chip 1) v) { s with trk := v }
  | writeSec (v : Byte) : ActionOutcome s (.write (.chip 2) v) { s with sec := v }
  | writeDat (v : Byte) : ActionOutcome s (.write (.chip 3) v) { ackDrq s with dat := v, written := true }
  | writeCtl (v : Byte) : ActionOutcome s (.write .control v) (writeControl v s)
  | tick (t : State) : tick s = .next t → ActionOutcome s .tick t
  | bind (d : DriveIx) (g : Geometry) (bytes : List Byte) (ro : Bool) : inFlight s d = false → g.wf = true →
      g.fits bytes = true → ActionOutcome s (.bind d g bytes ro) (rebind d (.image (newSession g bytes ro)) s)
  | close (d : DriveIx) : inFlight s d = false → ActionOutcome s (.close d) (rebind d .empty (abort d s))
  | wprot (d : DriveIx) (b : Bool) : ActionOutcome s (.wprot d b) (setWriteProtect d b s)
  | reset : ActionOutcome s .reset (machineReset s)
  | callback (d : DriveIx) (c : Callback) : (s.drive d).bound = .alt →
      ActionOutcome s (.altCallback d c) (runCallback c s)

/-- The four chip registers (R41). -/
theorem chip_cases (n : BitVec 2) : n = 0#2 ∨ n = 1#2 ∨ n = 2#2 ∨ n = 3#2 := by revert n; decide

/-- Everything an action that answers a next state can do. -/
theorem perform_outcome {a : Action} {s t : State} (h : perform a s = .next t) : ActionOutcome s a t := by
  cases a with
  | read tg =>
    cases tg with
    | control => cases h; exact .readCtl
    | chip n =>
      rcases chip_cases n with rfl | rfl | rfl | rfl <;> cases h
      · exact .readSts
      · exact .readTrk
      · exact .readSec
      · exact .readDat
  | write tg v =>
    cases tg with
    | control => cases h; exact .writeCtl v
    | chip n =>
      rcases chip_cases n with rfl | rfl | rfl | rfl
      · exact .command v t h
      · cases h; exact .writeTrk v
      · cases h; exact .writeSec v
      · cases h; exact .writeDat v
  | tick => exact .tick t h
  | bind d g bytes ro =>
    unfold perform bindImage at h; dsimp only at h
    split at h
    · cases h
    · rename_i h1
      split at h
      · cases h
      · rename_i h2
        split at h
        · cases h
        · rename_i h3
          cases h
          exact .bind d g bytes ro (by simpa using h1) (by simpa using h2) (by simpa using h3)
  | bindAlt d => cases h
  | close d =>
    unfold perform closeImage at h; dsimp only at h
    split at h
    · cases h
    · rename_i h1; cases h; exact .close d (by simpa using h1)
  | wprot d b => cases h; exact .wprot d b
  | reset => cases h; exact .reset
  | altCallback d c =>
    unfold perform alternateCallback at h; dsimp only at h
    split at h
    · rename_i hb; cases h; exact .callback d c hb
    · cases h
    · cases h

/-- What an alternate backend's pull does to the controller (R206). -/
theorem runCallback_pull (last : Bool) (s : State) :
    runCallback (.pull last) s =
      if s.written then (if last then { s with written := false } else raiseDrq { s with written := false }) else s := by
  unfold runCallback cbPull
  cases s.written <;> cases last <;> rfl

/-- A step is an outcome of its next action, from a state that differs from `s` in the queue only (R4). -/
theorem step_outcome {s t : State} (h : step s = .next t) :
    ∃ q, nextAction s = ((nextAction s).1, { s with inbox := q }) ∧
      ActionOutcome { s with inbox := q } (nextAction s).1 t := by
  obtain ⟨a, s', hn, hp, -, q, rfl⟩ := step_cases h
  rw [hn]
  exact ⟨q, rfl, perform_outcome hp⟩

end Sys2Proof.Machine
end

