-- ==== Sys2Proof/Laws/PerInstr.lean ====
section
/-!
SUPPORT. What holds of every instruction as syntax, one lemma per constructor.
-/

/-- The encoding of an instruction has the bits that its row of the opcode table fixes (R60, R61). -/
def Sys2Proof.Laws.Opcode.Statement (i : Sys2Proof.Instr) : Prop :=
  (Sys2Proof.opcodeRow i).holds (Sys2Proof.encode i) = true

namespace Sys2Proof.Laws.Opcode

theorem restore (flags : BitVec 4) : Statement (.restore flags) := by unfold Statement; revert flags; decide
theorem seek (flags : BitVec 4) : Statement (.seek flags) := by unfold Statement; revert flags; decide
theorem step (low : BitVec 5) : Statement (.step low) := by unfold Statement; revert low; decide
theorem stepIn (low : BitVec 5) : Statement (.stepIn low) := by unfold Statement; revert low; decide
theorem stepOut (low : BitVec 5) : Statement (.stepOut low) := by unfold Statement; revert low; decide
theorem readSector (low : BitVec 5) : Statement (.readSector low) := by unfold Statement; revert low; decide
theorem writeSectorA (flags : BitVec 4) : Statement (.writeSectorA flags) := by unfold Statement; revert flags; decide
theorem writeSectorB (flags : BitVec 4) : Statement (.writeSectorB flags) := by unfold Statement; revert flags; decide
theorem readAddress (flags : BitVec 4) : Statement (.readAddress flags) := by unfold Statement; revert flags; decide
theorem forceInt (flags : BitVec 4) : Statement (.forceInt flags) := by unfold Statement; revert flags; decide
theorem invalid (flags : BitVec 4) : Statement (.invalid flags) := by unfold Statement; revert flags; decide
theorem writeTrack (flags : BitVec 4) : Statement (.writeTrack flags) := by unfold Statement; revert flags; decide

end Sys2Proof.Laws.Opcode
end

