-- ==== Sys2Proof/Laws/Polls.lean ====
section
/-!
SUPPORT. Polls of one drive: what a poll is while the divider runs, what it is on the divider's wrap, and how repeated polls
come down to divided ticks (R177).
-/

namespace Sys2Proof.Machine

/-- Putting the session that is there back changes nothing. -/
theorem setSession_self {s : State} {d : DriveIx} {ses : Session} (h : (s.drive d).bound = .image ses) :
    s.setSession d ses = s := by
  have hd : ({ s.drive d with bound := .image ses } : Drive) = s.drive d := by rw [← h]
  rw [State.setSession, hd, setDrive_drive_self]

/-- A state with another session in drive `d` differs from the first in drive `d` only. -/
theorem setSession_eq_setDrive (s : State) (d : DriveIx) (ses : Session) :
    s.setSession d ses = s.setDrive d ((s.setSession d ses).drive d) := by cases d <;> rfl

/-- A poll of an image drive. -/
theorem backendPoll_image {d : DriveIx} {s : State} {ses : Session} (h : (s.drive d).bound = .image ses) :
    backendPoll d s = pollSession d ses s := by simp only [backendPoll, h]

/-- A poll that the divider swallows (R177). -/
theorem backendPoll_throttled {d : DriveIx} {s : State} {ses : Session} (h : (s.drive d).bound = .image ses)
    (hd : ses.div + 1 < byteDivider) :
    backendPoll d s = .next (s.setSession d { ses with div := ses.div + 1 }) := by
  rw [backendPoll_image h, pollSession, if_pos hd]

/-- The poll on which the divider wraps (R177). -/
theorem backendPoll_wrap {d : DriveIx} {s : State} {ses : Session} (h : (s.drive d).bound = .image ses)
    (hd : ses.div + 1 = byteDivider) :
    backendPoll d s = dividedTick d { ses with div := 0 } (s.setSession d { ses with div := 0 }) := by
  rw [backendPoll_image h, pollSession, if_neg (by omega)]

/-- Polls in two portions. -/
theorem polls_add (d : DriveIx) (m n : Nat) (s : State) :
    polls d (m + n) s = andThen (polls d m s) (polls d n) := by
  induction m generalizing s with
  | zero => rw [Nat.zero_add]; rfl
  | succ m ih =>
    rw [show m + 1 + n = (m + n) + 1 by omega, polls, polls]
    cases backendPoll d s with
    | next u => exact ih u
    | fault e => rfl
    | refused e => rfl

/-- Polls that the divider swallows. -/
theorem polls_throttled {d : DriveIx} (m : Nat) {s : State} {ses : Session} (h : (s.drive d).bound = .image ses)
    (hm : ses.div + m < byteDivider) :
    polls d m s = .next (s.setSession d { ses with div := ses.div + m }) := by
  induction m generalizing s ses with
  | zero => exact congrArg Host.Outcome.next (setSession_self h).symm
  | succ m ih =>
    rw [polls, backendPoll_throttled h (by omega), andThen_next,
      ih (ses := { ses with div := ses.div + 1 }) (by rw [drive_setSession_same]) (by show ses.div + 1 + m < _; omega),
      setSession_setSession]
    rw [show ses.div + 1 + m = ses.div + (m + 1) by omega]

/-- The polls up to and with the divider's next wrap are one divided tick (R177). -/
theorem polls_to_wrap {d : DriveIx} {s : State} {ses : Session} (h : (s.drive d).bound = .image ses)
    (hm : ses.div < byteDivider) :
    polls d (byteDivider - ses.div) s =
      dividedTick d { ses with div := 0 } (s.setSession d { ses with div := 0 }) := by
  have hlast : ses.div + (byteDivider - 1 - ses.div) + 1 = byteDivider := by omega
  rw [show byteDivider - ses.div = (byteDivider - 1 - ses.div) + 1 by omega, polls_add,
    polls_throttled _ h (by omega), andThen_next, polls,
    backendPoll_wrap (ses := { ses with div := ses.div + (byteDivider - 1 - ses.div) })
      (by rw [drive_setSession_same]) hlast, setSession_setSession]
  show andThen (dividedTick d { ses with div := 0 } (s.setSession d { ses with div := 0 })) (polls d 0) = _
  generalize dividedTick d { ses with div := 0 } (s.setSession d { ses with div := 0 }) = r
  cases r <;> rfl

theorem PollFrame.refl (d : DriveIx) (s : State) : PollFrame d s s :=
  ⟨rfl, rfl, rfl, rfl, rfl, rfl, rfl, rfl, rfl, rfl, rfl, rfl, rfl, fun _ _ => rfl, rfl, rfl⟩

theorem PollFrame.trans {d : DriveIx} {s t u : State} (h : PollFrame d s t) (k : PollFrame d t u) : PollFrame d s u where
  cmd       := k.cmd.trans h.cmd
  trk       := k.trk.trans h.trk
  sec       := k.sec.trans h.sec
  ctl       := k.ctl.trans h.ctl
  side      := k.side.trans h.side
  dens      := k.dens.trans h.dens
  drv       := k.drv.trans h.drv
  stepdir   := k.stepdir.trans h.stepdir
  nfCount   := k.nfCount.trans h.nfCount
  seekCount := k.seekCount.trans h.seekCount
  inbox     := k.inbox.trans h.inbox
  hostRead  := k.hostRead.trans h.hostRead
  freeCount := k.freeCount.trans h.freeCount
  other j hj := (k.other j hj).trans (h.other j hj)
  wp        := k.wp.trans h.wp
  curtrk    := k.curtrk.trans h.curtrk

/-- What no poll writes (R158, R190). -/
theorem poll_frame {d : DriveIx} {s t : State} (h : backendPoll d s = .next t) : PollFrame d s t := by
  obtain ⟨_, rfl⟩ | ⟨ses, _, ho⟩ := backendPoll_cases h
  · exact .refl _ _
  · have other : ∀ (w : State) (x : Session) j, j ≠ d → (w.setSession d x).drive j = w.drive j :=
      fun w x j hj => drive_setSession_other w x hj
    have flag : ∀ (w : State) (x : Session), ((w.setSession d x).drive d).wp = (w.drive d).wp := fun w x => by simp
    have head : ∀ (w : State) (x : Session), ((w.setSession d x).drive d).curtrk = (w.drive d).curtrk := fun w x => by simp
    cases ho <;> exact ⟨rfl, rfl, rfl, rfl, rfl, rfl, rfl, rfl, rfl, rfl, rfl, rfl, rfl, other _ _, flag _ _, head _ _⟩

/-- What no run of polls writes. -/
theorem polls_frame {d : DriveIx} {n : Nat} {s t : State} (h : polls d n s = .next t) : PollFrame d s t := by
  induction n generalizing s with
  | zero => cases h; exact .refl _ _
  | succ n ih =>
    obtain ⟨u, hu, ht⟩ := andThen_eq_next.1 h
    exact (poll_frame hu).trans (ih ht)

/-- A poll of a drive with nothing in flight moves its divider at most: flag and head stay, and nothing starts (R158, R178). -/
theorem poll_idle {d : DriveIx} {s : State} (h : inFlight s d = false) :
    ∃ x, backendPoll d s = .next (s.setDrive d x) ∧ x.curtrk = (s.drive d).curtrk ∧ x.wp = (s.drive d).wp ∧
      ∀ j, inFlight (s.setDrive d x) j = inFlight s j := by
  have same : ∀ j, inFlight (s.setDrive d (s.drive d)) j = inFlight s j := by simp
  cases hb : (s.drive d).bound with
  | empty => exact ⟨s.drive d, by simp [backendPoll, hb], rfl, rfl, same⟩
  | alt => exact ⟨s.drive d, by simp [backendPoll, hb], rfl, rfl, same⟩
  | image ses =>
    have hst : ses.st = .idle := by unfold inFlight at h; rw [hb] at h; simpa using h
    have kept : ∀ k j, inFlight (s.setDrive d { s.drive d with bound := .image { ses with div := k } }) j = inFlight s j := by
      intro k j
      unfold inFlight
      by_cases hj : j = d
      · subst hj; simp [hb, hst]
      · rw [drive_setDrive, if_neg hj]
    by_cases hd : ses.div + 1 < byteDivider
    · exact ⟨_, backendPoll_throttled hb hd, rfl, rfl, kept _⟩
    · refine ⟨{ s.drive d with bound := .image { ses with div := 0 } }, ?_, rfl, rfl, kept _⟩
      rw [backendPoll_image hb, pollSession, if_neg hd]
      simp only [dividedTick, hst]
      rfl

/-- A Tick with no operation of a backend in flight is the two countdowns and the motor's step, on drives whose heads stay
(R158). -/
theorem tick_idle {s : State} (h0 : inFlight s .d0 = false) (h1 : inFlight s .d1 = false) :
    ∃ x y, tick s = .next (motorStep (seekStep (nfStep ((s.setDrive .d0 x).setDrive .d1 y)))) ∧
      x.curtrk = s.drive0.curtrk ∧ y.curtrk = s.drive1.curtrk := by
  obtain ⟨x, e, hc, -, hi⟩ := poll_idle h0
  obtain ⟨y, e', hc', -, -⟩ := poll_idle (s := s.setDrive .d0 x) (d := .d1) (by rw [hi]; exact h1)
  exact ⟨x, y, by simp [tick, dispatchPoll, e, e'], hc, hc'⟩

end Sys2Proof.Machine
end

