-- ==== Sys2Proof/Tests/Slice0.lean ====
section
/-!
SUPPORT. Tests: the encoding written out bit by bit (30_encoding.md), the spec's vectors (95_test_vectors.md, cited V and S)
on one step each, and, for every statement with hypotheses, a witness that meets them. A test looks only at fields that no
open parameter decides; where a vector uses a default (`IRQ_GATE`, `WS_QUIRK_NIBBLE`, `FILLER`), the field that depends on it is
left out. A status byte is named by its pattern of R65, since the bit positions are open; `patterns_default` of Laws/Flags.lean
gives the patterns' values in the default layout, the numbers of the vectors. Times of the vectors depend on `SEEK_TICKS` and are left out too.
-/

namespace Sys2Proof.Tests

open Sys2Proof Sys2Proof.Machine

/-! ### Small states -/

/-- `G_T` of the vectors: single-sided, 2 tracks of 2 sectors of 4 bytes. -/
def geoT : Geometry :=
  { sides := .single, density := .singleD, totalSectors := 4, tracks := 2, spt := 2, secsize := 4 }

/-- `G_T2`: interleaved, double density, otherwise as `G_T`. -/
def geoT2 : Geometry :=
  { sides := .interleaved, density := .doubleD, totalSectors := 8, tracks := 2, spt := 2, secsize := 4 }

/-- `G_A`, `G_I`, `G_S`. -/
def geoA : Geometry :=
  { sides := .single, density := .singleD, totalSectors := 400, tracks := 40, spt := 10, secsize := 256 }
def geoI : Geometry :=
  { sides := .interleaved, density := .doubleD, totalSectors := 2560, tracks := 80, spt := 16, secsize := 256 }
def geoS : Geometry := { geoI with sides := .sequential }

/-- `B16`. -/
def b16 : List Byte := (List.range 16).map (BitVec.ofNat 8)

/-- A session on `B16`. -/
def sesT : Session := newSession geoT b16 false

/-- A state with this session in drive 0, otherwise as after power-on but for a direction. -/
def withSession (ses : Session) : State :=
  { State.reset with stepdir := .inward, drive0 := { Drive.startup with bound := .image ses } }

/-- Start A of the vectors, but for `sts`, here the byte of zeros: idle in every layout, so that a command can be evaluated. No
accepted command reads another flag than BUSY (R80 to R122). -/
def startA : State := { withSession sesT with motorOn := true, spindown := 44984 }

/-- Start A as the vectors have it: `sts` is 0x84 in the default layout. -/
def startIdle : State := { startA with sts := patIdle 0x00#8 }

/-- Start A with an alternate backend in drive 0. -/
def startAlt : State := { startA with drive0 := { Drive.startup with bound := .alt } }

/-- Start A with drive 1, which is empty, selected. -/
def startEmpty : State := { startA with drv := .d1 }

/-- A session on the point of a divided tick. -/
def atTick (st : OpState) (cnt pos : Nat) : Session := { sesT with st := st, cnt := cnt, pos := pos, div := 15 }

/-- A busy state with this session in drive 0. -/
def busyWith (ses : Session) : State :=
  { withSession ses with sts := patTransfer, motorOn := true, spindown := 45000, cmd := 0x80#8 }

/-- Whether a result is a next state with a property. -/
def holds (r : Result) (p : State → Bool) : Bool :=
  match r with
  | .next t => p t
  | .fault _ => false
  | .refused _ => false

/-- A result is a next state with this status byte, given by its pattern (R65; what the patterns are in the default layout is
`patterns_default`), and with a property. -/
def runs (r : Result) (sts : Byte) (p : State → Bool) : Prop := ∃ t, r = .next t ∧ t.sts = sts ∧ p t = true

/-- Whether drive 0 holds a session with a property. -/
def session0 (s : State) (p : Session → Bool) : Bool :=
  match s.drive0.bound with
  | .image ses => p ses
  | .empty => false
  | .alt => false

/-! ### Single flags -/

/-- Bytes with the same bits are the same byte. -/
theorem same_bits {v w : Byte} (h : ∀ i, v.getLsbD i = w.getLsbD i) : v = w :=
  BitVec.eq_of_getLsbD_eq fun i _ => h i

/-- R136 and R137: of MOTOR, BUSY and DRQ only DRQ falls. -/
theorem drop_request : clearBit patWrite stDrq = patTransfer :=
  same_bits fun i => by by_cases h : i = stDrq <;> simp [patWrite, patTransfer, setBit, h]

/-- R223: of MOTOR and TRACK0, and of MOTOR, BUSY and DRQ, only MOTOR falls. -/
theorem motor_off_idle : clearBit (patIdle 0x00#8) stMotor = bit stTrack0 :=
  same_bits fun i => by by_cases h : i = stMotor <;> simp [patIdle, trackZero, h]
theorem motor_off_write : clearBit patWrite stMotor = bit stBusy ||| bit stDrq :=
  same_bits fun i => by by_cases h : i = stMotor <;> simp [patWrite, patTransfer, setBit, h]

/-! ### Encoding (R60 to R63), written out from the patterns of R61 -/

theorem test_decode_restore : decode 0b00001111#8 = .restore 0b1111#4 := by decide
theorem test_decode_seek : decode 0b00010011#8 = .seek 0b0011#4 := by decide
theorem test_decode_step : decode 0b00111010#8 = .step 0b11010#5 := by decide
theorem test_decode_step_in : decode 0b01011001#8 = .stepIn 0b11001#5 := by decide
theorem test_decode_step_out : decode 0b01100001#8 = .stepOut 0b00001#5 := by decide
theorem test_decode_read_sector : decode 0b10010100#8 = .readSector 0b10100#5 := by decide
theorem test_decode_write_sector_a : decode 0b10100001#8 = .writeSectorA 0b0001#4 := by decide
theorem test_decode_write_sector_b : decode 0b10111000#8 = .writeSectorB 0b1000#4 := by decide
theorem test_decode_read_address : decode 0b11000100#8 = .readAddress 0b0100#4 := by decide
theorem test_decode_force_int : decode 0b11011000#8 = .forceInt 0b1000#4 := by decide
theorem test_decode_invalid : decode 0b11100101#8 = .invalid 0b0101#4 := by decide
theorem test_decode_write_track : decode 0b11110000#8 = .writeTrack 0b0000#4 := by decide

/-- No byte lies in two rows of the opcode table: the rows are disjoint. -/
theorem test_rows_disjoint :
    opcodeTable.Pairwise fun a b => a.mask &&& b.mask &&& (a.pattern ^^^ b.pattern) ≠ 0#8 := by decide

/-- A missing byte is rejected by name. -/
theorem test_decode_no_byte : decodeBytes [] = .error .noByte := rfl

/-- A word of another length than a command's is none. -/
theorem test_table_word : decodeTableWord 8 0xE5 = some (.invalid 0x5#4) ∧ decodeTableWord 16 0xE5 = none := by decide

/-- The host's placement runs exactly the command it places, as the first action after reset. -/
theorem test_with_fetch_word (w : Nat) :
    step (State.reset.withFetchWord 8 w) = exec (decode (BitVec.ofNat 8 (w % 2 ^ 8))) State.reset := rfl

/-! ### Well-formedness (R46, R47): one ill-formed term for each check -/

theorem test_wf_good : geoT.wf = true ∧ geoT2.wf = true ∧ geoA.wf = true ∧ geoI.wf = true ∧ geoS.wf = true := by decide
theorem test_wf_no_tracks : { geoT with tracks := 0, totalSectors := 0 }.wf = false := by decide
theorem test_wf_no_spt : { geoT with spt := 0, totalSectors := 0 }.wf = false := by decide
theorem test_wf_no_secsize : { geoT with secsize := 0 }.wf = false := by decide
theorem test_wf_no_total : { geoT with totalSectors := 0 }.wf = false := by decide
theorem test_wf_total : { geoT with totalSectors := 5 }.wf = false := by decide
theorem test_wf_total_sides : { geoT with sides := .sequential }.wf = false := by decide
theorem test_fits : geoT.fits b16 = true ∧ geoT.fits (b16.drop 1) = false := by decide
theorem test_command_wf : (Instr.forceInt 0x8#4).wf = true := rfl

/-! ### Offsets (R50): S1, S2, V57 to V60 -/

theorem test_offsets_single : sectorOffset geoA 39 false 9 = 102144 ∧ sectorOffset geoT 1 false 1 = 12 := by decide
theorem test_offsets_interleaved : sectorOffset geoI 10 true 0 = 86016 ∧ sectorOffset geoI 10 false 3 = 82688 ∧
    sectorOffset geoI 79 true 15 = 655104 ∧ sectorOffset geoT2 1 true 1 = 28 := by decide
theorem test_offsets_sequential : sectorOffset geoS 10 true 0 = 368640 ∧ sectorOffset geoS 10 false 3 = 41728 ∧
    sectorOffset geoS 79 true 15 = 655104 := by decide

/-! ### Positioning -/

/-- V1. -/
theorem test_restore : runs (exec (decode 0x00#8)
    { startA with trk := 0x27#8, drive0 := { startA.drive0 with curtrk := 39 } }) (patPosition 0x00#8) (fun t =>
      t.trk == 0x00#8 && t.drive0.curtrk == 0 && t.spindown == 45000) :=
  ⟨_, rfl, rfl, by decide⟩

/-- V3: beyond the last track, and accepted. -/
theorem test_seek : runs (exec (decode 0x10#8) { startA with dat := 0x0A#8 }) (patPosition 0x0A#8) (fun t =>
    t.trk == 0x0A#8 && t.drive0.curtrk == 10 && t.dat == 0x0A#8) :=
  ⟨_, rfl, rfl, by decide⟩

/-- V4. -/
theorem test_seek_zero : runs (exec (decode 0x10#8) { startA with trk := 0x05#8 }) (patPosition 0x00#8) (fun t =>
    t.trk == 0x00#8) :=
  ⟨_, rfl, rfl, by decide⟩

/-- V9, both directions. -/
theorem test_step_outward : runs (exec (decode 0x20#8) { startA with trk := 0x05#8, stepdir := .outward }) (patPosition 0x04#8) (fun t =>
    t.trk == 0x04#8 && t.stepdir == .outward) :=
  ⟨_, rfl, rfl, by decide⟩
theorem test_step_inward : holds (exec (decode 0x3F#8) { startA with trk := 0x05#8, stepdir := .inward }) (fun t =>
    t.trk == 0x06#8 && t.cmd == 0x3F#8) = true := by decide

/-- V5. -/
theorem test_step_in : runs (exec (decode 0x40#8) { startA with stepdir := .outward }) (patPosition 0x01#8) (fun t =>
    t.trk == 0x01#8 && t.stepdir == .inward && t.drive0.curtrk == 1) :=
  ⟨_, rfl, rfl, by decide⟩

/-- V6: the wrap. -/
theorem test_step_in_wraps : runs (exec (decode 0x40#8) { startA with trk := 0xFF#8 }) (patPosition 0x00#8) (fun t =>
    t.trk == 0x00#8 && t.drive0.curtrk == 0) :=
  ⟨_, rfl, rfl, by decide⟩

/-- V7. -/
theorem test_step_out : runs (exec (decode 0x60#8) { startA with trk := 0x01#8 }) (patPosition 0x00#8) (fun t =>
    t.trk == 0x00#8 && t.stepdir == .outward) :=
  ⟨_, rfl, rfl, by decide⟩

/-- V8: the wrap. -/
theorem test_step_out_wraps : runs (exec (decode 0x60#8) startA) (patPosition 0xFF#8) (fun t =>
    t.trk == 0xFF#8 && t.drive0.curtrk == 255) :=
  ⟨_, rfl, rfl, by decide⟩

/-! ### Transfers -/

/-- V14. -/
theorem test_read_sector : runs (exec (decode 0x80#8) { startA with sec := 0x01#8 }) patTransfer (fun t =>
    t.cmd == 0x80#8 && t.spindown == 45000 && session0 t (fun ses =>
      ses.st == .read && ses.pos == 4 && ses.cnt == 4 && ses.tsec == 1)) :=
  ⟨_, rfl, rfl, by decide⟩

/-- V18: the head is not on the track, guard (e). -/
theorem test_read_sector_guard : runs (exec (decode 0x80#8) { startA with trk := 0x01#8 }) patTransfer (fun t =>
    session0 t (fun ses => ses.st == .notFound && ses.cnt == 500)) :=
  ⟨_, rfl, rfl, by decide⟩

/-- V22, but for `sts`, which `WS_QUIRK_NIBBLE` decides; `written` was 1. -/
theorem test_write_sector_a : holds (exec (decode 0xA0#8) { startA with written := true }) (fun t =>
    t.cmd == 0xA0#8 && t.irqDrq && !t.written && session0 t (fun ses =>
      ses.st == .write && ses.pos == 0 && ses.cnt == 4)) = true := by decide

/-- V24, but for `sts`: one dispatch call, no read-address call. -/
theorem test_write_sector_b : holds (exec (decode 0xB0#8) startA) (fun t =>
    t.cmd == 0xB0#8 && t.irqDrq && !t.written && session0 t (fun ses =>
      ses.st == .write && ses.cnt == 4 && ses.stage == 0)) = true := by decide

/-- V22 and V24: whichever nibble falls through, the other leaves the DRQ flag set. -/
theorem test_quirk_is_one_nibble :
    (opOf 0xA0#8 = wsQuirkNibble ∧ opOf 0xB0#8 ≠ wsQuirkNibble) ∨
      (opOf 0xA0#8 ≠ wsQuirkNibble ∧ opOf 0xB0#8 = wsQuirkNibble) := by
  unfold wsQuirkNibble
  cases Config.wsQuirkIsB
  · exact .inl (by decide)
  · exact .inr (by decide)

/-- V27's start. -/
theorem test_read_address : runs (exec (decode 0xC0#8) startA) patTransfer (fun t =>
    session0 t (fun ses => ses.st == .addr && ses.stage == 0)) :=
  ⟨_, rfl, rfl, by decide⟩

/-- V44 for Read Address: an empty drive. -/
theorem test_read_address_empty : runs (exec (decode 0xC0#8) startEmpty) patTransfer (fun t =>
    t.nfCount == 500 && session0 t (fun ses => ses.st == .idle)) :=
  ⟨_, rfl, rfl, by decide⟩

/-- V29's start. -/
theorem test_write_track : runs (exec (decode 0xF0#8)
    { startA with trk := 0x01#8, drive0 := { startA.drive0 with curtrk := 1 } }) patTransfer (fun t =>
      session0 t (fun ses => ses.st == .format && ses.pos == 8 && ses.cnt == 2)) :=
  ⟨_, rfl, rfl, by decide⟩

/-- R151, R153: a drive bound to the alternate backend is refused by name, and none is so bound. -/
theorem test_alt_refused : exec (decode 0xF0#8) startAlt = .refused .altBackend ∧
    exec (decode 0x00#8) startAlt = .refused .altBackend := ⟨rfl, rfl⟩
theorem test_bind_alt_refused : perform (.bindAlt .d1) startA = .refused .altBackend := rfl

/-! ### Force Interrupt and the unrecognised command -/

/-- V39. -/
theorem test_force_int_idle : runs (exec (decode 0xD0#8)
    { startA with trk := 0x01#8, motorOn := false, spindown := 0 }) (patIdle 0x01#8) (fun t =>
      !t.motorOn && t.spindown == 45000 && t.trk == 0x01#8) :=
  ⟨_, rfl, rfl, by decide⟩

/-- V40: of the flags MOTOR, BUSY and DRQ only BUSY falls. -/
theorem test_force_int_busy : runs (exec (decode 0xD0#8)
    { busyWith { sesT with st := .write, cnt := 4 } with sts := patWrite, irqDrq := true }) (bit stMotor ||| bit stDrq) (fun t =>
      t.cmd == 0xD0#8 && t.irqDrq && session0 t (fun ses => ses.st == .idle && ses.cnt == 4 && ses.pos == 0)) := by
  refine ⟨_, exec_forceInt 0x0#4 _, ?_, by decide⟩
  refine (forceStatus_busy (show patWrite.getLsbD stBusy = true by simp [patWrite])).trans ?_
  show clearBit patWrite stBusy = _
  exact same_bits fun i => by by_cases h : i = stBusy <;> simp [patWrite, patTransfer, setBit, h]

/-- V43, idle and busy. -/
theorem test_invalid : runs (exec (decode 0xE5#8) startA) patNotFound (fun t =>
    t.cmd == 0xE5#8 && !t.motorOn && t.spindown == 0) :=
  ⟨_, rfl, clearMotor_patNotFound, by decide⟩
theorem test_invalid_busy :
    exec (decode 0xE5#8) (busyWith (atTick .read 4 4)) = .next (busyWith (atTick .read 4 4)) :=
  (exec_eq_accept (.invalid 0x5#4) _).trans (acceptCommand_busy ((busy_eq _).trans busy_patTransfer) (by decide))

/-! ### Register access -/

/-- V32. -/
theorem test_read_status : runs (perform (.read (.chip 0)) { startIdle with irqDone := true, irqDrq := true })
    (patIdle 0x00#8) (fun t => !t.irqDone && t.irqDrq) := ⟨_, rfl, rfl, by decide⟩
theorem test_read_status_byte : ∃ t, perform (.read (.chip 0)) startIdle = .next t ∧ t.hostRead = patIdle 0x00#8 :=
  ⟨_, rfl, rfl⟩

/-- V33. -/
theorem test_write_track_register : runs (perform (.write (.chip 1) 0x27#8) startIdle) (patIdle 0x00#8) (fun t =>
    t.trk == 0x27#8 && t.drive0.curtrk == 0) :=
  ⟨_, rfl, rfl, by decide⟩

/-- V34. -/
theorem test_write_sector_register : holds (perform (.write (.chip 2) 0xFF#8) startA) (fun t => t.sec == 0xFF#8) = true := by
  decide

/-- R136's example. -/
theorem test_read_data : runs (perform (.read (.chip 3)) { startA with dat := 0x4A#8, sts := patWrite, irqDrq := true })
    patTransfer (fun t => t.hostRead == 0x4A#8 && !t.irqDrq) :=
  ⟨_, rfl, drop_request, by decide⟩

/-- R137's example: a zero byte that is available. -/
theorem test_write_data : runs (perform (.write (.chip 3) 0x00#8) { startA with sts := patWrite, irqDrq := true })
    patTransfer (fun t => t.dat == 0x00#8 && t.written && !t.irqDrq) :=
  ⟨_, rfl, drop_request, by decide⟩

/-- V55, the soft reset itself; which control byte triggers it is open. -/
theorem test_soft_reset : (softReset { busyWith (atTick .read 3 5) with dat := 0x04#8, sec := 0x01#8, irqDrq := true } |>
    fun t => t.sts == 0x00#8 && t.cmd == 0x00#8 && !t.irqDrq && !t.motorOn && t.sec == 0x01#8 && t.dat == 0x04#8 &&
      session0 t (fun ses => ses.st == .idle && ses.pos == 5)) = true := by decide

/-- V54. -/
theorem test_machine_reset : runs (perform .reset { busyWith (atTick .read 4 4) with sec := 0x01#8 }) 0x00#8 (fun t =>
    t.sec == 0x00#8 && !t.motorOn && session0 t (fun ses =>
      ses.st == .idle && ses.div == 15 && ses.img == sesT.img)) :=
  ⟨_, rfl, rfl, by decide⟩

/-! ### Ticks -/

/-- V15: the first byte. -/
theorem test_read_tick : runs (tick (busyWith (atTick .read 4 4))) patWrite (fun t =>
    t.dat == 0x04#8 && t.irqDrq && session0 t (fun ses =>
      ses.pos == 5 && ses.cnt == 3 && ses.div == 0)) :=
  ⟨_, rfl, rfl, by decide⟩

/-- V17: the last byte. -/
theorem test_read_last_tick : runs (tick (busyWith (atTick .read 1 7))) (bit stMotor) (fun t =>
    t.dat == 0x07#8 && t.irqDrq && t.spindown == 44999 && session0 t (fun ses =>
      ses.st == .idle && ses.cnt == 0 && ses.pos == 8)) :=
  ⟨_, rfl, rfl, by decide⟩

/-- V18's end. -/
theorem test_not_found_tick : runs (tick (busyWith (atTick .notFound 1 0))) patNotFound (fun t =>
    !t.motorOn && t.spindown == 0 && !t.irqDrq && session0 t (fun ses => ses.st == .idle)) :=
  ⟨_, rfl, clearMotor_patNotFound, by decide⟩

/-- V23: an underrun. -/
theorem test_underrun_tick : runs (tick { busyWith (atTick .write 4 0) with sts := patWrite, dat := 0x77#8 }) patWrite (fun t =>
    session0 t (fun ses => ses.cnt == 4 && ses.pos == 0 && ses.div == 0 && ses.img == sesT.img)) :=
  ⟨_, rfl, rfl, by decide⟩

/-- V25 and P2 step 9: a byte is stored and the next is asked for. -/
theorem test_write_tick : runs (tick { busyWith (atTick .write 4 8) with dat := 0xAA#8, written := true }) patWrite (fun t =>
    t.irqDrq && !t.written && session0 t (fun ses =>
      ses.cnt == 3 && ses.pos == 9 && ses.img.read 8 == 0xAA#8 && ses.img.read 9 == 0x09#8)) :=
  ⟨_, rfl, rfl, by decide⟩

/-- P2 step 13: the last byte asks for no other. -/
theorem test_write_last_tick : runs (tick { busyWith (atTick .write 1 11) with dat := 0xDD#8, written := true }) (bit stMotor) (fun t =>
    !t.irqDrq && session0 t (fun ses => ses.st == .idle && ses.img.read 11 == 0xDD#8)) :=
  ⟨_, rfl, rfl, by decide⟩

/-- V26: protection stops the write, the byte stays. -/
theorem test_write_protect_tick : runs (tick { busyWith (atTick .write 4 0) with
    drive0 := { wp := true, curtrk := 0, bound := .image (atTick .write 4 0) }, dat := 0x77#8, written := true }) patWrProt (fun t =>
      !t.motorOn && session0 t (fun ses => ses.st == .idle && ses.img == sesT.img)) :=
  ⟨_, rfl, clearMotor_patWrProt, by decide⟩

/-- V27's third byte and V28: the pointer wraps. -/
theorem test_address_tick : holds (tick (busyWith { atTick .addr 0 0 with stage := 2, asec := 1 })) (fun t =>
    t.dat == 0x01#8 && session0 t (fun ses => ses.stage == 3)) = true := by decide
theorem test_address_ends : runs (tick (busyWith { atTick .addr 0 0 with stage := 6, asec := 1 })) (bit stMotor) (fun t =>
    session0 t (fun ses => ses.st == .idle && ses.asec == 0)) :=
  ⟨_, rfl, rfl, by decide⟩

/-- R183 at the edge of the byte: the pointer 255 is reported as it is, of 256 the byte is free (log 23). -/
theorem test_address_edge : sectorByte 255 = 0xFF#8 ∧ sectorByte 256 = wideSector 256 := ⟨by decide, sectorByte_wide (by decide)⟩

/-- V29, but for the filler's value: a sector is passed, the bytes before it stay. -/
theorem test_format_tick : runs (tick (busyWith (atTick .format 2 8))) patTransfer (fun t =>
    session0 t (fun ses => ses.st == .format && ses.pos == 12 && ses.cnt == 1)) :=
  ⟨_, rfl, rfl, by decide⟩

/-- P5 step 4: protection in the middle of a format. -/
theorem test_format_protected : runs (tick { busyWith (atTick .format 1 4) with
    drive0 := { wp := true, curtrk := 0, bound := .image (atTick .format 1 4) } }) patWrProt (fun t =>
      session0 t (fun ses => ses.st == .idle && ses.img == sesT.img)) :=
  ⟨_, rfl, clearMotor_patWrProt, by decide⟩

/-- V12 and V51: the finished callback inside a Tick; the motor's step of that Tick counts. -/
theorem test_seek_ends : runs (tick { startA with cmd := 0x40#8, trk := 0x01#8, sts := patTransfer, seekCount := 1 }) (patIdle 0x01#8) (fun t =>
    t.seekCount == 0 && t.spindown == 44999) :=
  ⟨_, rfl, rfl, by decide⟩

/-- V44's end. -/
theorem test_dispatch_countdown_ends : runs (tick { startEmpty with cmd := 0x80#8, sts := patTransfer, nfCount := 1 }) patNotFound (fun t =>
    t.nfCount == 0 && !t.motorOn && t.spindown == 0) :=
  ⟨_, rfl, clearMotor_patNotFound, by decide⟩

/-- V50's end: only the MOTOR flag falls. -/
theorem test_motor_ends : runs (tick { startIdle with spindown := 1 }) (bit stTrack0) (fun t =>
    !t.motorOn && t.spindown == 0) :=
  ⟨_, rfl, motor_off_idle, by decide⟩

/-- V52: the motor stops under a stalled write, which goes on. -/
theorem test_motor_ends_busy : runs (tick { busyWith (atTick .write 4 0) with sts := patWrite, spindown := 1 }) (bit stBusy ||| bit stDrq) (fun t =>
    session0 t (fun ses => ses.st == .write && ses.cnt == 4)) :=
  ⟨_, rfl, motor_off_write, by decide⟩

/-- V31: both drives are polled whatever drive is selected. -/
theorem test_other_drive_polled : holds (tick { busyWith (atTick .read 4 4) with drv := .d1 }) (fun t =>
    t.dat == 0x04#8) = true := by decide

/-! ### The environment -/

/-- V46. -/
theorem test_bind_short : perform (.bind .d0 geoT (b16.drop 1) false) startA = .refused .imageLength := by rfl
theorem test_bind : holds (perform (.bind .d1 geoT b16 true) startA) (fun t =>
    match t.drive1.bound with
    | .image ses => ses.swp && ses.st == .idle && ses.img.read 15 == 0x0F#8
    | .empty => false
    | .alt => false) = true := by decide

/-- V47. -/
theorem test_close : holds (perform (.close .d0) startA) (fun t =>
    t.drive0.bound == .empty && t.drive0.curtrk == 0) = true := by decide

/-- V48: the line. -/
theorem test_line : ({ startA with irqDrq := true } : State).irqLine = true ∧ startA.irqLine = false := by decide

/-! ### Witnesses: for each statement with hypotheses, a state and operands that meet them, clause by clause -/

/-- A drive with this session, head at track 0. -/
def driveWith (ses : Session) : Drive := { Drive.startup with bound := .image ses }

/-- A state whose queue holds one action. -/
def queued (a : Action) (s : State) : State := { s with inbox := [a] }

/-- HostAddressDecoded: on every profile there is an address of each kind. -/
theorem test_witness_address_control (p : Profile) :
    ∃ addr : Nat, addr.testBit (ctrlAddrBit p) = ctrlAddrPol p := by
  cases h : ctrlAddrPol p
  · exact ⟨0, by simp⟩
  · exact ⟨2 ^ ctrlAddrBit p, by simp [Nat.testBit_two_pow_self]⟩
theorem test_witness_address_chip (p : Profile) :
    ∃ addr : Nat, addr.testBit (ctrlAddrBit p) ≠ ctrlAddrPol p := by
  cases h : ctrlAddrPol p
  · exact ⟨2 ^ ctrlAddrBit p, by simp [Nat.testBit_two_pow_self]⟩
  · exact ⟨0, by simp⟩

/-- StepRunsDecodedCommand, StepPerformsOneAction: a queue with an action, and an empty one. -/
theorem test_witness_queue :
    (queued (.write (.chip 0) 0x80#8) startA).inbox = .write (.chip 0) 0x80#8 :: [] ∧ startA.inbox = [] := ⟨rfl, rfl⟩

/-- BusyIgnoresCommand: a busy state and a command that is not Force Interrupt. -/
theorem test_witness_busy : (busyWith (atTick .read 4 4)).busy = true ∧ ∀ flags, Instr.restore 0#4 ≠ .forceInt flags :=
  ⟨(busy_eq _).trans busy_patTransfer, fun _ h => by cases h⟩

/-- The command results: an idle state; StepResult: one in each direction; the positioning results: a drive that holds an image
and an empty one. -/
theorem test_witness_idle : startA.busy = false ∧ startA.stepdir = .inward ∧
    ({ startA with stepdir := .outward } : State).busy = false ∧ (startA.drive startA.drv).bound ≠ .alt ∧
    (startEmpty.drive startEmpty.drv).bound ≠ .alt := by decide

/-- AlternateDriveRefused: the alternate backend, idle, and a command of each kind. -/
theorem test_witness_alternate : startAlt.busy = false ∧ (startAlt.drive startAlt.drv).bound = .alt ∧
    (∀ flags, Instr.seek 0#4 ≠ .forceInt flags) ∧ ∀ flags, Instr.writeTrack 0#4 ≠ .invalid flags :=
  ⟨by decide, rfl, nofun, nofun⟩

/-- StatusReadAcknowledges: some bit of the byte carries no flag, in every layout, since there are seven flags. -/
theorem test_witness_unused : ∃ n, n < 8 ∧ isFlag n = false := by
  by_contra h
  simp only [not_exists, not_and, Bool.not_eq_false] at h
  have hs : (Finset.range 8) ⊆ (flagPositions statusLayout).toFinset := fun n hn => by
    have := h n (Finset.mem_range.1 hn)
    simpa [isFlag] using this
  have := (Finset.card_le_card hs).trans (List.toFinset_card_le _)
  simp [flagPositions] at this

/-- TickPollsBothDrives: two polls that answer, on the divider's wrap of a read. -/
theorem test_witness_tick : ∃ u v, backendPoll .d0 (busyWith (atTick .read 4 4)) = .next u ∧ backendPoll .d1 u = .next v :=
  ⟨_, _, rfl, rfl⟩

/-- The transfer results: an image drive with the guards passed at the last track and sector, and with one failed. -/
theorem test_witness_guards_pass :
    let s : State := { startA with trk := 0x01#8, sec := 0x01#8, drive0 := { startA.drive0 with curtrk := 1 } }
    s.busy = false ∧ (s.drive s.drv).bound = .image sesT ∧ GuardsPass s sesT true ∧ GuardsPass s sesT false :=
  ⟨by decide, rfl, ⟨rfl, .inl ⟨rfl, rfl⟩, rfl, by decide, fun _ => by decide, .inl rfl⟩,
    ⟨rfl, .inl ⟨rfl, rfl⟩, rfl, by decide, fun _ => by decide, .inl rfl⟩⟩
theorem test_witness_guards_fail :
    let s : State := { startA with sec := 0x02#8, trk := 0x02#8 }
    s.busy = false ∧ (s.drive s.drv).bound = .image sesT ∧ ¬ GuardsPass s sesT true ∧ ¬ GuardsPass s sesT false :=
  ⟨by decide, rfl, fun h => absurd h.track (by decide), fun h => absurd h.track (by decide)⟩

/-- Guard (f) is the one guard that the commands without a sector operand do not test. -/
theorem test_witness_guard_sector :
    let s : State := { startA with sec := 0x02#8 }
    ¬ GuardsPass s sesT true ∧ GuardsPass s sesT false :=
  ⟨fun h => absurd (h.sector rfl) (by decide), ⟨rfl, .inl ⟨rfl, rfl⟩, rfl, by decide, fun h => absurd h (by decide), .inl rfl⟩⟩

/-- The transfer results, ForceInterruptResult, CrcCallbacks: an empty drive and an alternate backend, idle. -/
theorem test_witness_bindings : (startEmpty.drive startEmpty.drv).bound = .empty ∧ startEmpty.busy = false ∧
    (startAlt.drive startAlt.drv).bound = .alt ∧ startAlt.busy = false := by decide

/-- The write results: `WS_QUIRK_NIBBLE` is one of the two nibbles, so one of the two clauses on it applies. -/
theorem test_witness_quirk : wsQuirkNibble = 0xA#4 ∨ wsQuirkNibble ≠ 0xA#4 := by
  unfold wsQuirkNibble; cases Config.wsQuirkIsB <;> decide

/-- ControlWriteResult, RegisterWritesKeepOperation: `RESET_OF` is open, so of each byte one of the two clauses applies. -/
theorem test_witness_reset_of (v : Byte) : resetOf profile v = false ∨ resetOf profile v = true := by
  cases resetOf profile v <;> simp

/-- DividerThrottles: the last phase before the wrap, and the wrap of an idle machine. -/
theorem test_witness_divider :
    ((startA.drive .d0).bound = .image sesT ∧ sesT.div + 1 < byteDivider) ∧
    (({ sesT with div := 14 } : Session).div + 1 < byteDivider) ∧
    ((withSession (atTick .idle 0 0)).drive .d0).bound = .image (atTick .idle 0 0) ∧
    (atTick .idle 0 0).div + 1 = byteDivider ∧ (atTick .idle 0 0).st = .idle := by decide

/-- NotFoundCountdownLength: the shortest countdown on its last poll, and the full one. -/
theorem test_witness_not_found :
    ((busyWith (atTick .notFound 1 0)).drive .d0).bound = .image (atTick .notFound 1 0) ∧
    (atTick .notFound 1 0).st = .notFound ∧ 1 ≤ (atTick .notFound 1 0).cnt ∧ (atTick .notFound 1 0).div < byteDivider ∧
    1 ≤ (atTick .notFound 500 0).cnt := by decide

/-- ReadDeliversSectorInOrder: the last sector of the image; its first and its last byte. -/
theorem test_witness_read :
    ((busyWith (atTick .read 4 12)).drive .d0).bound = .image (atTick .read 4 12) ∧ (atTick .read 4 12).st = .read ∧
    (atTick .read 4 12).div < byteDivider ∧ (atTick .read 4 12).pos + (atTick .read 4 12).cnt ≤ (atTick .read 4 12).size ∧
    (1 ≤ 1 ∧ 1 < (atTick .read 4 12).cnt) ∧ (1 ≤ 4 ∧ 4 = (atTick .read 4 12).cnt) := by decide

/-- WriteTickCases: the hypotheses at the last offset, and each clause. -/
theorem test_witness_write :
    ((busyWith (atTick .write 1 15)).drive .d0).bound = .image (atTick .write 1 15) ∧ (atTick .write 1 15).st = .write ∧
    (atTick .write 1 15).div + 1 = byteDivider ∧ (atTick .write 1 15).img.wf = true ∧
    (atTick .write 1 15).pos < (atTick .write 1 15).size := by decide
theorem test_witness_write_clauses :
    (({ atTick .write 1 15 with swp := true } : Session).swp = true) ∧
    ((busyWith (atTick .write 1 15)).drive .d0).wp = false ∧ (atTick .write 1 15).swp = false ∧
    (busyWith (atTick .write 1 15)).written = false ∧
    ({ busyWith (atTick .write 1 15) with written := true } : State).written = true ∧
    (atTick .write 1 15).cnt = 1 ∧ 1 < (atTick .write 2 15).cnt := by decide

/-- AddressTickCases: the first and the last of the six stages, and the end. -/
theorem test_witness_address :
    ((busyWith (atTick .addr 0 0)).drive .d0).bound = .image (atTick .addr 0 0) ∧ (atTick .addr 0 0).st = .addr ∧
    (atTick .addr 0 0).div + 1 = byteDivider ∧ (atTick .addr 0 0).stage < 6 ∧
    ({ atTick .addr 0 0 with stage := 5 } : Session).stage < 6 ∧ ({ atTick .addr 0 0 with stage := 6 } : Session).stage = 6 := by
  decide

/-- FormatTickCases: the last sector of the image; with and without protection, the last tick and one before. -/
theorem test_witness_format :
    ((busyWith (atTick .format 1 12)).drive .d0).bound = .image (atTick .format 1 12) ∧ (atTick .format 1 12).st = .format ∧
    (atTick .format 1 12).div + 1 = byteDivider ∧ (atTick .format 1 12).img.wf = true ∧
    (atTick .format 1 12).pos + (atTick .format 1 12).geo.secsize ≤ (atTick .format 1 12).size := by decide
theorem test_witness_format_clauses :
    ((busyWith (atTick .format 1 12)).drive .d0).wp = false ∧ (atTick .format 1 12).swp = false ∧
    ({ atTick .format 1 12 with swp := true } : Session).swp = true ∧
    (atTick .format 1 12).cnt = 1 ∧ 1 < (atTick .format 2 8).cnt := by decide

/-- AbortOnlyIdles: a running session, and a drive with nothing in flight. -/
theorem test_witness_abort :
    ((busyWith (atTick .read 4 4)).drive .d0).bound = .image (atTick .read 4 4) ∧
    inFlight (busyWith (atTick .read 4 4)) .d0 = true ∧ inFlight startA .d0 = false ∧ inFlight startA .d1 = false := by decide

/-- ImageReadAfterWrite: the first and the last offset. -/
theorem test_witness_image : sesT.img.wf = true ∧ 0 < sesT.size ∧ 15 < sesT.size := by decide

/-- SectorOffsets: one geometry of each layout. -/
theorem test_witness_layouts : geoT.sides ≠ .interleaved ∧ geoI.sides = .interleaved ∧ geoS.sides = .sequential := by decide

/-- GuardedSectorsInsideImage: the last sector. -/
theorem test_witness_guarded :
    let s : State := { startA with trk := 0x01#8, sec := 0x01#8, drive0 := { startA.drive0 with curtrk := 1 } }
    sesT.geo.wf = true ∧ GuardsPass s sesT true :=
  ⟨by decide, ⟨rfl, .inl ⟨rfl, rfl⟩, rfl, by decide, fun _ => by decide, .inl rfl⟩⟩

/-- DispatchCountdownEnds, PositioningEnds: the last Tick of the countdown and one before. -/
theorem test_witness_countdowns :
    let s : State := { startEmpty with sts := patTransfer, nfCount := 1 }
    let t : State := { startA with sts := patTransfer, cmd := 0x7F#8, seekCount := 1 }
    (inFlight s .d0 = false ∧ inFlight s .d1 = false ∧ s.seekCount = 0 ∧ 0 < s.nfCount ∧ 0 < ({ s with nfCount := 2 } : State).nfCount) ∧
    (inFlight t .d0 = false ∧ inFlight t .d1 = false ∧ t.nfCount = 0 ∧ 0 < t.seekCount ∧ (opOf t.cmd).toNat ≤ 7 ∧
      1 < ({ t with seekCount := 2 } : State).seekCount) := by decide

/-- MotorTimerStep: its three cases at their bounds. -/
theorem test_witness_motor : State.reset.spindown = 0 ∧ ({ startA with spindown := 1 } : State).spindown = 1 ∧
    1 < ({ startA with spindown := 2 } : State).spindown := by decide

/-- BindResult: in flight, a bad geometry, a wrong length, and a good image. -/
theorem test_witness_bind :
    inFlight (busyWith (atTick .read 4 4)) .d0 = true ∧ inFlight startA .d0 = false ∧
    ({ geoT with totalSectors := 5 } : Geometry).wf = false ∧ geoT.wf = true ∧
    (b16.drop 1).length ≠ geoT.totalSectors * geoT.secsize ∧ b16.length = geoT.totalSectors * geoT.secsize := by decide

/-- MachineResetResult: all three bindings. -/
theorem test_witness_reset_bindings : (startA.drive .d0).bound = .image sesT ∧ (startA.drive .d1).bound = .empty ∧
    (startAlt.drive .d0).bound = .alt := by decide

/-- SectorRegisterHostOnly. -/
theorem test_witness_sector : ∃ t, step (queued (.write (.chip 2) 0x05#8) startA) = .next t ∧
    t.sec ≠ (queued (.write (.chip 2) 0x05#8) startA).sec := ⟨_, rfl, by decide⟩

/-- CompletionLatchClearedOnly. -/
theorem test_witness_completion : ∃ t, step (queued (.read (.chip 0)) { startA with irqDone := true }) = .next t ∧
    (queued (.read (.chip 0)) { startA with irqDone := true }).irqDone = true ∧ t.irqDone = false := ⟨_, rfl, by decide⟩

/-- DataRequestClearedOnly, by a read and by a write. -/
theorem test_witness_request : ∃ t, step (queued (.read (.chip 3)) { startA with irqDrq := true }) = .next t ∧
    (queued (.read (.chip 3)) { startA with irqDrq := true }).irqDrq = true ∧ t.irqDrq = false := ⟨_, rfl, by decide⟩
theorem test_witness_request_write : ∃ t, step (queued (.write (.chip 3) 0x00#8) { startA with irqDrq := true }) = .next t ∧
    t.irqDrq = false := ⟨_, rfl, by decide⟩

/-- BusyEnteredOnlyByCommand. -/
theorem test_witness_busy_entered : ∃ t, step (queued (.write (.chip 0) 0x80#8) startA) = .next t ∧
    (queued (.write (.chip 0) 0x80#8) startA).busy = false ∧ t.busy = true :=
  ⟨_, rfl, by decide, (busy_eq _).trans busy_patTransfer⟩

/-- HostAccessKeepsImages: a read and a write that answer. -/
theorem test_witness_access : (∃ t, perform (.read .control) startA = .next t) ∧
    (∃ t, perform (.write (.chip 0) 0xA0#8) startA = .next t) := ⟨⟨_, rfl⟩, ⟨_, rfl⟩⟩

/-- ProtectedImageKept: a write on a protected drive, on its divided tick. -/
theorem test_witness_protected :
    let s : State := { busyWith (atTick .write 4 0) with drive0 := { driveWith (atTick .write 4 0) with wp := true } }
    (s.drive .d0).wp = true ∧ ∃ t, tick s = .next t := ⟨rfl, _, rfl⟩
theorem test_witness_protected_session :
    let ses : Session := { atTick .format 2 0 with swp := true }
    ((busyWith ses).drive .d0).bound = .image ses ∧ ses.swp = true ∧ ∃ t, tick (busyWith ses) = .next t := ⟨rfl, rfl, _, rfl⟩

/-- SessionConstants: a step that stores a byte, and one that closes the drive. -/
theorem test_witness_session :
    (∃ t, step (queued .tick { busyWith (atTick .write 4 8) with written := true }) = .next t) ∧
    ((queued .tick { busyWith (atTick .write 4 8) with written := true }).drive .d0).bound = .image (atTick .write 4 8) ∧
    (∃ t, step (queued (.close .d0) startA) = .next t) ∧ ((queued (.close .d0) startA).drive .d0).bound = .image sesT :=
  ⟨⟨_, rfl⟩, rfl, ⟨_, rfl⟩, rfl⟩

/-- RegisterWritesKeepOperation: a write of `sec` during a read; of a control byte, `test_witness_reset_of`. -/
theorem test_witness_register_write : (∃ t, perform (.write (.chip 2) 0x01#8) (busyWith (atTick .read 4 4)) = .next t) ∧
    Target.chip 2 ≠ .chip 0 ∧ (Target.chip 2 = .control → resetOf profile 0x01#8 = false) :=
  ⟨⟨_, rfl⟩, by decide, fun h => by cases h⟩

/-- StepKeepsSound, StepNeverFaults: a state in the middle of a read meets the invariant, and steps. -/
theorem test_witness_sound : (busyWith (atTick .read 4 4)).Sound where
  unused _ h := unused_patTransfer h
  spindown := by decide
  nfCount := by decide
  sessions d ses h := by
    cases d with
    | d0 =>
      cases h
      exact { geo := by decide, form := by decide, inside := by decide, div := by decide, stage := by decide,
              asec := by decide, progress := ⟨by decide, by decide, by decide⟩ }
    | d1 => cases h
theorem test_witness_sound_step : ∃ t, step (busyWith (atTick .read 4 4)) = .next t := ⟨_, rfl⟩

/-- StepKeepsOneInFlight: the same state, and the idle one; no drive with the alternate backend. -/
theorem test_witness_one_in_flight : (busyWith (atTick .read 4 4)).OneInFlight ∧ startA.OneInFlight ∧
    (busyWith (atTick .read 4 4)).NoAlternate ∧ (busyWith (atTick .read 4 4)).NoAltCallback := by
  refine ⟨?_, by unfold State.OneInFlight; decide, fun d => by cases d <;> decide, fun _ _ h => by cases h⟩
  have hb : (busyWith (atTick .read 4 4)).busy = true := (busy_eq _).trans busy_patTransfer
  unfold State.OneInFlight
  rw [hb]
  decide

/-- ReachableOneInFlight: a run that binds an image and starts a read. -/
theorem test_witness_run : ∃ t, steps 2 { State.reset with
    inbox := [.bind .d0 geoT b16 false, .write (.chip 0) 0x80#8] } = .next t ∧ inFlight t .d0 = true := ⟨_, rfl, rfl⟩

/-- StepKeepsMotorTimed: a running motor on its last Tick. -/
theorem test_witness_motor_timed : ({ startA with spindown := 1 } : State).MotorTimed ∧ startA.motorOn = true :=
  ⟨fun _ => by decide, rfl⟩

end Sys2Proof.Tests
end

/-!
PROOFS of the statements about the state (10_state.md): what a step keeps of `sec` (R13), of a session's constants (R28, R29)
and of the number of operations in flight (R37).
-/

namespace Sys2Proof.Machine

/-! ### The parts of a Tick: the two countdowns and the motor's step -/

/-- The not-found countdown ends in its callback, or goes on and is spent only if it was (R158). -/
theorem nfStep_cases (s : State) :
    (s.nfCount ≠ 0 ∧ nfStep s = cbNotFound { s with nfCount := 0 }) ∨
    ∃ n, (n = 0 ↔ s.nfCount = 0) ∧ nfStep s = { s with nfCount := n } := by
  unfold nfStep
  split
  · split
    · exact .inl ⟨by omega, rfl⟩
    · exact .inr ⟨s.nfCount - 1, by omega, rfl⟩
  · exact .inr ⟨s.nfCount, Iff.rfl, rfl⟩

/-- The seek countdown ends in its callback, or goes on and is spent only if it was (R158). -/
theorem seekStep_cases (s : State) :
    (s.seekCount ≠ 0 ∧ seekStep s = cbFinished { s with seekCount := 0 }) ∨
    ∃ n, (n = 0 ↔ s.seekCount = 0) ∧ seekStep s = { s with seekCount := n } := by
  unfold seekStep
  split
  · split
    · exact .inl ⟨by omega, rfl⟩
    · exact .inr ⟨s.seekCount - 1, by omega, rfl⟩
  · exact .inr ⟨s.seekCount, Iff.rfl, rfl⟩

/-- The motor's step writes its timer, its flag and the status only (R223). -/
theorem motorStep_writes (s : State) :
    ∃ n on v, motorStep s = { s with spindown := n, motorOn := on, sts := v } := by
  unfold motorStep
  split
  · split
    · exact ⟨_, _, _, rfl⟩
    · exact ⟨_, s.motorOn, s.sts, rfl⟩
  · exact ⟨s.spindown, s.motorOn, s.sts, rfl⟩

/-- What a poll of an image drive leaves in the drive: a session with the same geometry and protection flag, whose operation
goes on, or ends as the controller becomes idle (R28, R29, R190). -/
theorem PollOutcome.session {d : DriveIx} {ses : Session} {s t : State} (h : PollOutcome d ses s t) :
    ∃ ses', (t.drive d).bound = .image ses' ∧ ses'.geo = ses.geo ∧ ses'.swp = ses.swp ∧
      ((ses'.st = ses.st ∧ t.busy = s.busy) ∨ (ses.st ≠ .idle ∧ ses'.st = .idle ∧ t.busy = false)) := by
  have held : ∀ (w : State) (x : Session), ((w.setSession d x).drive d).bound = .image x := fun w x => by simp
  cases h
  case throttled | idle | notFoundCounts | writeUnderrun | addrPast | formatSector =>
    exact ⟨_, held _ _, rfl, rfl, .inl ⟨rfl, rfl⟩⟩
  case readByte | addrByte => exact ⟨_, held _ _, rfl, rfl, .inl ⟨rfl, busy_cbDataReady _ _⟩⟩
  case writeByte => exact ⟨_, held _ _, rfl, rfl, .inl ⟨rfl, busy_raiseDrq _⟩⟩
  case notFoundEnds hst _ => exact ⟨_, held _ _, rfl, rfl, .inr ⟨by simp [hst], rfl, busy_cbNotFound _⟩⟩
  case writeProtected hst _ | formatProtected hst _ =>
    exact ⟨_, held _ _, rfl, rfl, .inr ⟨by simp [hst], rfl, busy_cbWriteProtect _⟩⟩
  case readLast hst _ _ | writeLast hst _ _ _ _ | writeSpent hst _ _ _ _ | addrEnds hst _ | formatLast hst _ _ _ =>
    exact ⟨_, held _ _, rfl, rfl, .inr ⟨by simp [hst], rfl, busy_cbFinished _⟩⟩

/-! ### The sector register (R13) -/

/-- No command writes what `CommandFrame` lists (R13, R14, R68). -/
theorem exec_commandFrame {i : Instr} {s t : State} (h : exec i s = .next t) : CommandFrame s t := by
  cases exec_outcome h <;> exact ⟨rfl, rfl, rfl, rfl, rfl, rfl, rfl, rfl, rfl⟩

/-- A Tick does not write `sec` (R13). -/
theorem tick_sec {s t : State} (h : tick s = .next t) : t.sec = s.sec := by
  refine tick_induct (P := fun u => u.sec = s.sec) h rfl ?poll ?nf ?seek ?motor
  case poll => exact fun d u v hu hv => (poll_frame hv).sec.trans hu
  case nf =>
    intro u hu
    obtain ⟨_, e⟩ | ⟨n, _, e⟩ := nfStep_cases u <;> rw [e] <;> exact hu
  case seek =>
    intro u hu
    obtain ⟨_, e⟩ | ⟨n, _, e⟩ := seekStep_cases u <;> rw [e] <;> exact hu
  case motor =>
    intro u hu
    obtain ⟨n, on, v, e⟩ := motorStep_writes u
    rw [e]; exact hu

/-- No callback writes `sec` (R13, R200 to R206). -/
theorem runCallback_sec (c : Callback) (s : State) : (runCallback c s).sec = s.sec := by
  cases c with
  | pull last => rw [runCallback_pull]; split_ifs <;> rfl
  | _ => rfl

/-- A write of the control register does not write `sec`, whether it triggers the reset or not (R139, R241). -/
theorem writeControl_sec (v : Byte) (s : State) : (writeControl v s).sec = s.sec := by
  unfold writeControl; split <;> rfl

/-- Settles O45: a case analysis over what the performed action can do; only the write of `CHIP(2)` and RESET name `sec`. -/
theorem sectorRegisterHostOnly : Obligations.SectorRegisterHostOnly := by
  intro s t hstep hsec
  obtain ⟨q, -, ho⟩ := step_outcome hstep
  generalize (nextAction s).1 = a at ho ⊢
  cases ho
  case writeSec v => exact .inl ⟨v, rfl⟩
  case reset => exact .inr rfl
  case command v h => exact absurd (exec_commandFrame h).sec hsec
  case tick h => exact absurd (tick_sec h) hsec
  case callback d c _ => exact absurd (runCallback_sec c _) hsec
  case writeCtl v => exact absurd (writeControl_sec v _) hsec
  all_goals exact absurd rfl hsec

/-! ### What is fixed for a session (R24, R28, R29) -/

/-- What a drive holds, without what an operation moves: the kind of its binding (R24) and the constants of its session
(R28, R29). -/
inductive Medium
  | empty
  | image (geo : Geometry) (swp : Bool)
  | alt

/-- The medium of a binding. -/
def Binding.medium : Binding → Medium
  | .empty => .empty
  | .image ses => .image ses.geo ses.swp
  | .alt => .alt

/-- Abort stops the machine of a session, no constant of it (R185). -/
@[simp] theorem Binding.medium_stop (b : Binding) : b.stop.medium = b.medium := by cases b <;> rfl

/-- The alternate backend is told by its medium. -/
theorem Binding.medium_eq_alt {b : Binding} : b.medium = .alt ↔ b = .alt := by cases b <;> simp [medium]

/-- An image is told by its medium, with its session's constants. -/
theorem Binding.medium_eq_image {b : Binding} {g : Geometry} {p : Bool} :
    b.medium = .image g p ↔ ∃ ses, b = .image ses ∧ ses.geo = g ∧ ses.swp = p := by cases b <;> simp [medium]

/-- The medium in drive `d`. -/
def State.medium (s : State) (d : DriveIx) : Medium := (s.drive d).bound.medium

/-- The medium depends on the binding only. -/
theorem medium_congr {s t : State} {d : DriveIx} (h : (t.drive d).bound = (s.drive d).bound) :
    t.medium d = s.medium d := congrArg Binding.medium h

/-- Abort keeps the media (R159). -/
theorem medium_abortAll (s : State) (d : DriveIx) : (abortAll s).medium d = s.medium d := by simp [State.medium]

/-- A session with the constants of the one before keeps the media. -/
theorem medium_setSession {s : State} {d : DriveIx} {ses ses' : Session} (hb : (s.drive d).bound = .image ses)
    (hg : ses'.geo = ses.geo) (hp : ses'.swp = ses.swp) (j : DriveIx) : (s.setSession d ses').medium j = s.medium j := by
  unfold State.medium
  by_cases hj : j = d
  · subst hj; simp [hb, Binding.medium, hg, hp]
  · rw [drive_setSession_other _ _ hj]

/-- A poll keeps the media (R190). -/
theorem medium_poll {d : DriveIx} {s t : State} (h : backendPoll d s = .next t) (j : DriveIx) :
    t.medium j = s.medium j := by
  by_cases hj : j = d
  · subst hj
    obtain ⟨_, rfl⟩ | ⟨ses, hb, ho⟩ := backendPoll_cases h
    · rfl
    · obtain ⟨ses', hb', hg, hp, -⟩ := ho.session
      simp [State.medium, hb, hb', Binding.medium, hg, hp]
  · exact medium_congr (by rw [poll_other h hj])

/-- A Tick keeps the media (R158, R230). -/
theorem medium_tick {s t : State} (h : tick s = .next t) (j : DriveIx) : t.medium j = s.medium j :=
  tick_induct (P := fun u => u.medium j = s.medium j) h rfl
    (poll := fun _ _ _ hu hv => (medium_poll hv j).trans hu)
    (nf := fun u hu => (medium_congr (by rw [nfStep_drive])).trans hu)
    (seek := fun u hu => (medium_congr (by rw [seekStep_drive])).trans hu)
    (motor := fun u hu => (medium_congr (by rw [motorStep_drive])).trans hu)

/-- A positioning command binds nothing (R82). -/
theorem positionState_bound (new : Byte) (s : State) (j : DriveIx) :
    ((positionState new s).drive j).bound = (s.drive j).bound := by
  rw [positionState_drive]
  split
  · rename_i hj; rw [hj]
  · rfl

/-- A command keeps the media (R28, R29). -/
theorem medium_exec {i : Instr} {s t : State} (h : exec i s = .next t) (j : DriveIx) : t.medium j = s.medium j := by
  cases exec_outcome h
  case ignored | declined | writeDeclined | invalid => rfl
  case positioned new dir _ _ _ => exact medium_congr (positionState_bound new _ j)
  case started k ses _ hb _ _ _ =>
    exact medium_setSession (s := { accepted i s with sts := patTransfer }) hb (by simp) (by simp) j
  case writeStarted ses _ hb _ _ _ =>
    exact medium_setSession (s := { accepted i s with sts := patTransfer }) hb (by simp) (by simp) j
  case forced => exact medium_abortAll s j

/-- A write of the control register keeps the media (R139, R241). -/
theorem medium_writeControl (v : Byte) (s : State) (j : DriveIx) : (writeControl v s).medium j = s.medium j := by
  unfold writeControl
  split
  · exact medium_abortAll s j
  · rfl

/-- A callback touches no drive (R200 to R206). -/
theorem runCallback_drive (c : Callback) (s : State) (j : DriveIx) : (runCallback c s).drive j = s.drive j := by
  cases c with
  | pull last => rw [runCallback_pull]; split_ifs <;> rfl
  | _ => rfl

/-- The binding after a rebinding (R160, R161). -/
theorem rebind_bound (d j : DriveIx) (b : Binding) (s : State) :
    ((rebind d b s).drive j).bound = if j = d then b else (s.drive j).bound := by
  unfold rebind
  rw [drive_setDrive]
  split <;> rfl

/-- The write-protect flag of a drive is no part of its binding (R163). -/
theorem setWriteProtect_bound (d j : DriveIx) (p : Bool) (s : State) :
    ((setWriteProtect d p s).drive j).bound = (s.drive j).bound := by
  unfold setWriteProtect
  rw [drive_setDrive]
  split
  · rename_i hj; rw [hj]
  · rfl

/-- Every action keeps the medium of drive `d`, but BIND and CLOSE of that drive, which leave an image and nothing (R24, R28,
R29). -/
theorem ActionOutcome.medium {a : Action} {s t : State} (h : ActionOutcome s a t) (d : DriveIx) :
    t.medium d = s.medium d ∨
    (∃ g bytes ro, a = .bind d g bytes ro ∧ (t.drive d).bound = .image (newSession g bytes ro)) ∨
    (a = .close d ∧ (t.drive d).bound = .empty) := by
  cases h
  case command v h => exact .inl (medium_exec h d)
  case writeCtl v => exact .inl (medium_writeControl v s d)
  case tick h => exact .inl (medium_tick h d)
  case bind d' g bytes ro _ _ _ =>
    by_cases hd : d = d'
    · subst hd; exact .inr (.inl ⟨g, bytes, ro, rfl, by simp [rebind_bound]⟩)
    · exact .inl (medium_congr (by simp [rebind_bound, hd]))
  case close d' _ =>
    by_cases hd : d = d'
    · subst hd; exact .inr (.inr ⟨rfl, by simp [rebind_bound]⟩)
    · exact .inl (medium_congr (by simp [rebind_bound, abort_drive, hd]))
  case wprot d' p => exact .inl (medium_congr (setWriteProtect_bound d' d p s))
  case reset => exact .inl (medium_abortAll s d)
  case callback d' c _ => exact .inl (medium_congr (by rw [runCallback_drive]))
  all_goals exact .inl rfl

/-- Settles O51: the constants are the medium of the drive, which every action but BIND and CLOSE keeps. -/
theorem sessionConstants : Obligations.SessionConstants := by
  intro s t d ses hstep hb
  obtain ⟨q, -, ho⟩ := step_outcome hstep
  obtain hm | ⟨g, bytes, ro, ha, -⟩ | ⟨ha, -⟩ := ho.medium d
  · have held : s.medium d = .image ses.geo ses.swp := congrArg Binding.medium hb
    exact .inl (Binding.medium_eq_image.1 (hm.trans held))
  · exact .inr (.inl ⟨g, bytes, ro, ha⟩)
  · exact .inr (.inr ha)

/-! ### Counting the operations in flight (R37) -/

/-- The count depends on the bindings and the two countdowns only. -/
theorem activeCount_congr {s t : State} (hb : ∀ d, (t.drive d).bound = (s.drive d).bound)
    (hn : t.nfCount = s.nfCount) (hk : t.seekCount = s.seekCount) : activeCount t = activeCount s := by
  unfold activeCount
  rw [driveActive_congr (hb .d0), driveActive_congr (hb .d1), hn, hk]

/-- A change on one drive changes the count by what it changes there. -/
theorem activeCount_drive {s t : State} {d : DriveIx} (hb : ∀ j, j ≠ d → (t.drive j).bound = (s.drive j).bound)
    (hn : t.nfCount = s.nfCount) (hk : t.seekCount = s.seekCount) :
    activeCount t + driveActive s d = activeCount s + driveActive t d := by
  unfold activeCount
  rw [hn, hk]
  cases d with
  | d0 => rw [driveActive_congr (hb .d1 (by decide))]; omega
  | d1 => rw [driveActive_congr (hb .d0 (by decide))]; omega

/-- A change of the not-found countdown alone changes the count by that countdown. -/
theorem activeCount_nfCount {s t : State} (hb : ∀ d, (t.drive d).bound = (s.drive d).bound)
    (hk : t.seekCount = s.seekCount) :
    activeCount t + (if s.nfCount = 0 then 0 else 1) = activeCount s + (if t.nfCount = 0 then 0 else 1) := by
  unfold activeCount
  rw [driveActive_congr (hb .d0), driveActive_congr (hb .d1), hk]
  omega

/-- A change of the seek countdown alone changes the count by that countdown. -/
theorem activeCount_seekCount {s t : State} (hb : ∀ d, (t.drive d).bound = (s.drive d).bound)
    (hn : t.nfCount = s.nfCount) :
    activeCount t + (if s.seekCount = 0 then 0 else 1) = activeCount s + (if t.seekCount = 0 then 0 else 1) := by
  unfold activeCount
  rw [driveActive_congr (hb .d0), driveActive_congr (hb .d1), hn]
  omega

/-- Nothing is in flight after an abort of both drives and the end of both countdowns (R120, R240, R241). -/
theorem activeCount_aborted {s t : State} (hd : ∀ d, t.drive d = (abortAll s).drive d) (hn : t.nfCount = 0)
    (hk : t.seekCount = 0) : activeCount t = 0 := by
  have still : ∀ d, driveActive t d = 0 := fun d => by
    rw [driveActive_congr (congrArg Drive.bound (hd d)), driveActive, inFlight_abortAll]; rfl
  simp [activeCount, still, hn, hk]

/-- Nothing in flight: no drive runs and no countdown. -/
theorem activeCount_eq_zero {s : State} :
    activeCount s = 0 ↔ driveActive s .d0 = 0 ∧ driveActive s .d1 = 0 ∧ s.nfCount = 0 ∧ s.seekCount = 0 := by
  simp [activeCount, and_assoc]

/-- A transfer started on a drive is the one operation in flight (R173 to R175). -/
theorem activeCount_setSession_running {s : State} {d : DriveIx} {ses : Session} (h : activeCount s = 0)
    (hst : ses.st ≠ .idle) : activeCount (s.setSession d ses) = 1 := by
  obtain ⟨h0, h1, hn, hk⟩ := activeCount_eq_zero.1 h
  cases d <;> simp [activeCount, driveActive_setSession, h0, h1, hn, hk, hst]

/-- A started countdown of a declined operation is the one operation in flight (R157). -/
theorem activeCount_declined {s t : State} (h : activeCount s = 0) (hb : ∀ d, (t.drive d).bound = (s.drive d).bound)
    (hn : t.nfCount = notFoundTicks) (hk : t.seekCount = s.seekCount) : activeCount t = 1 := by
  have count := activeCount_nfCount hb hk
  obtain ⟨-, -, hn', -⟩ := activeCount_eq_zero.1 h
  rw [hn, hn', h] at count
  simpa [notFoundTicks] using count

/-- A started seek is the one operation in flight (R152). -/
theorem activeCount_positionState (new : Byte) {s : State} (h : activeCount s = 0) :
    activeCount (positionState new s) = 1 := by
  have count := activeCount_seekCount (positionState_bound new s) rfl
  have started : (positionState new s).seekCount ≠ 0 := Nat.succ_ne_zero _
  obtain ⟨-, -, -, hk⟩ := activeCount_eq_zero.1 h
  simpa [h, hk, started] using count

/-! ### One operation in flight (R37) -/

/-- A busy controller with one operation in flight. -/
theorem State.OneInFlight.of_busy {s : State} (hb : s.busy = true) (hc : activeCount s = 1) : s.OneInFlight := by
  unfold State.OneInFlight; rw [hc, hb]; rfl

/-- An idle controller with none. -/
theorem State.OneInFlight.of_idle {s : State} (hb : s.busy = false) (hc : activeCount s = 0) : s.OneInFlight := by
  unfold State.OneInFlight; rw [hc, hb]; rfl

/-- The fall-through of a write leaves a busy controller busy (R103). -/
theorem busy_writeFallThrough {s : State} (v : Byte) (hb : s.busy = true) : (writeFallThrough v s).busy = true := by
  rw [busy_eq, writeFallThrough_eq]
  dsimp only
  split
  · exact busy_patTransfer
  · rw [← busy_eq, hb]

/-- An armed write is busy (R65, R102). -/
theorem busy_armedWrite {s : State} (v : Byte) (hs : s.sts = patTransfer) :
    (writeFallThrough v { raiseDrq s with written := false }).busy = true :=
  busy_writeFallThrough v <| calc
    (raiseDrq s).busy = s.busy := busy_raiseDrq s
    _ = true := by rw [busy_eq, hs, busy_patTransfer]

section
variable {s t : State} (h : s.OneInFlight)
include h

/-- Nothing is in flight while idle. -/
theorem State.OneInFlight.count_idle (hb : s.busy = false) : activeCount s = 0 := by
  unfold State.OneInFlight at h; rw [h, hb]; rfl

/-- Kept where the operation goes on, or none runs. -/
theorem State.OneInFlight.goes_on (hb : t.busy = s.busy) (hc : activeCount t = activeCount s) : t.OneInFlight := by
  unfold State.OneInFlight at h ⊢; rw [hc, hb, h]

/-- Kept where an operation ends and the controller becomes idle. -/
theorem State.OneInFlight.ends (hb : t.busy = false) (hc : activeCount t + 1 = activeCount s) : t.OneInFlight := by
  refine .of_idle hb ?_
  unfold State.OneInFlight at h
  split at h <;> omega

/-- A poll keeps it: the drive's operation goes on, or ends (R190). -/
theorem State.OneInFlight.after_poll {d : DriveIx} (hp : backendPoll d s = .next t) : t.OneInFlight := by
  obtain ⟨_, rfl⟩ | ⟨ses, hb, ho⟩ := backendPoll_cases hp
  · exact h
  · have frame := poll_frame hp
    have count := activeCount_drive (fun j hj => congrArg Drive.bound (frame.other j hj)) frame.nfCount frame.seekCount
    obtain ⟨ses', hb', -, -, ⟨hst, hbusy⟩ | ⟨hrun, hidle, hbusy⟩⟩ := ho.session
    · rw [driveActive_image hb, driveActive_image hb', hst] at count
      exact h.goes_on hbusy (by omega)
    · rw [driveActive_image hb, driveActive_image hb', if_neg hrun, if_pos hidle] at count
      exact h.ends hbusy count

/-- The not-found countdown keeps it: it goes on, or ends in its callback (R158). -/
theorem State.OneInFlight.after_nfStep : (nfStep s).OneInFlight := by
  have count := activeCount_nfCount (s := s) (t := nfStep s)
  obtain ⟨hn, e⟩ | ⟨n, hn, e⟩ := nfStep_cases s <;> rw [e] at count ⊢
  · exact h.ends (busy_cbNotFound _) (by simpa [hn] using count (fun _ => rfl) rfl)
  · exact h.goes_on rfl (by simpa [hn] using count (fun _ => rfl) rfl)

/-- The seek countdown keeps it: it goes on, or ends in its callback (R158). -/
theorem State.OneInFlight.after_seekStep : (seekStep s).OneInFlight := by
  have count := activeCount_seekCount (s := s) (t := seekStep s)
  obtain ⟨hk, e⟩ | ⟨n, hk, e⟩ := seekStep_cases s <;> rw [e] at count ⊢
  · exact h.ends (busy_cbFinished _) (by simpa [hk] using count (fun _ => rfl) rfl)
  · exact h.goes_on rfl (by simpa [hk] using count (fun _ => rfl) rfl)

/-- The motor's step keeps it (R223). -/
theorem State.OneInFlight.after_motorStep : (motorStep s).OneInFlight := by
  refine h.goes_on (busy_motorStep s) ?_
  obtain ⟨n, on, v, e⟩ := motorStep_writes s
  rw [e]; rfl

/-- A Tick keeps it (R230). -/
theorem State.OneInFlight.after_tick (ht : tick s = .next t) : t.OneInFlight :=
  tick_induct ht h (fun _ _ _ hu hv => hu.after_poll hv) (fun _ hu => hu.after_nfStep) (fun _ hu => hu.after_seekStep)
    (fun _ hu => hu.after_motorStep)

/-- A command keeps it: ignored while busy; while idle it starts one operation, or none; Force Interrupt ends all (R80, R120). -/
theorem State.OneInFlight.after_exec {i : Instr} (he : exec i s = .next t) : t.OneInFlight := by
  cases exec_outcome he
  case ignored => exact h
  case positioned new dir hb _ _ =>
    exact .of_busy ((busy_eq _).trans (busy_patPosition new)) (activeCount_positionState new (h.count_idle hb))
  case started k ses hb _ _ _ _ =>
    exact .of_busy ((busy_eq _).trans busy_patTransfer)
      (activeCount_setSession_running (h.count_idle hb) (beginTransfer_st _ _ _ _))
  case declined hb _ _ _ _ =>
    exact .of_busy ((busy_eq _).trans busy_patTransfer) (activeCount_declined (h.count_idle hb) (fun _ => rfl) rfl rfl)
  case writeStarted ses hb _ _ _ _ =>
    exact .of_busy (busy_armedWrite _ rfl)
      (activeCount_setSession_running (h.count_idle hb) (beginTransfer_st _ _ _ _))
  case writeDeclined hb _ _ _ _ =>
    exact .of_busy (busy_armedWrite _ rfl) (activeCount_declined (h.count_idle hb) (fun _ => rfl) rfl rfl)
  case forced => exact .of_idle (busy_forceIntRule _) (activeCount_aborted (fun _ => rfl) rfl rfl)
  case invalid hb _ =>
    exact .of_idle ((busy_eq _).trans (by simp [complete])) (h.count_idle hb)

/-- A write of the control register keeps it: nothing that counts changes, or the soft reset ends all (R139, R241). -/
theorem State.OneInFlight.after_writeControl (v : Byte) : (writeControl v s).OneInFlight := by
  unfold writeControl
  split
  · exact .of_idle rfl (activeCount_aborted (fun _ => rfl) rfl rfl)
  · exact h.goes_on rfl rfl

/-- Kept by a change of one drive with nothing in flight on it before and after (R160, R161, R162). -/
theorem State.OneInFlight.still_drive {d : DriveIx} (hb : t.busy = s.busy)
    (hd : ∀ j, j ≠ d → (t.drive j).bound = (s.drive j).bound) (hn : t.nfCount = s.nfCount) (hk : t.seekCount = s.seekCount)
    (hs : inFlight s d = false) (ht : inFlight t d = false) : t.OneInFlight := by
  have count := activeCount_drive hd hn hk
  exact h.goes_on hb (by simpa [driveActive, hs, ht] using count)

/-- Every action keeps it but a callback of an alternate backend (R37, R217). -/
theorem State.OneInFlight.after_action {a : Action} (ho : ActionOutcome s a t) (ha : ∀ d c, a ≠ .altCallback d c) :
    t.OneInFlight := by
  cases ho
  case readSts | readTrk | readSec | readCtl | writeTrk | writeSec => exact h.goes_on rfl rfl
  case readDat | writeDat => exact h.goes_on (busy_ackDrq _) rfl
  case command v he => exact h.after_exec he
  case writeCtl v => exact h.after_writeControl v
  case tick ht => exact h.after_tick ht
  case bind d g bytes ro hs _ _ =>
    refine h.still_drive rfl (fun j hj => ?_) rfl rfl hs ?_
    · simp [rebind_bound, hj]
    · simp [inFlight, rebind_bound, newSession]
  case close d hs =>
    refine h.still_drive rfl (fun j hj => ?_) rfl rfl hs ?_
    · simp [rebind_bound, abort_drive, hj]
    · simp [inFlight, rebind_bound]
  case wprot d p => exact h.goes_on rfl (activeCount_congr (setWriteProtect_bound d · p s) rfl rfl)
  case reset => exact .of_idle rfl (activeCount_aborted (fun _ => rfl) rfl rfl)
  case callback d c _ => exact absurd rfl (ha d c)

/-- Every step keeps it but a callback of an alternate backend (R37, R217). -/
theorem State.OneInFlight.after_step (hstep : step s = .next t) (hc : s.NoAltCallback) : t.OneInFlight := by
  obtain ⟨q, -, ho⟩ := step_outcome hstep
  have h' : State.OneInFlight { s with inbox := q } := h
  exact h'.after_action ho hc

end

/-- A step from a state without alternate backends is no callback of one: that is refused (R151, log 14). -/
theorem State.NoAlternate.noAltCallback {s t : State} (h : s.NoAlternate) (hstep : step s = .next t) :
    s.NoAltCallback := by
  intro d c ha
  obtain ⟨q, -, ho⟩ := step_outcome hstep
  rw [ha] at ho
  cases ho
  case callback hb => exact h d hb

/-- No step binds an alternate backend (R151, D31; log 14). -/
theorem State.NoAlternate.after_step {s t : State} (h : s.NoAlternate) (hstep : step s = .next t) : t.NoAlternate := by
  intro d
  obtain ⟨q, -, ho⟩ := step_outcome hstep
  obtain hm | ⟨g, bytes, ro, -, hb⟩ | ⟨-, hb⟩ := ho.medium d
  · intro hb
    have held : s.medium d = .alt := hm.symm.trans (Binding.medium_eq_alt.2 hb)
    exact h d (Binding.medium_eq_alt.1 held)
  · rw [hb]; nofun
  · rw [hb]; nofun

/-- Settles O56: every action but a callback keeps the count in step with BUSY, and no drive without an alternate backend has
one that calls back. -/
theorem stepKeepsOneInFlight : Obligations.StepKeepsOneInFlight := by
  intro s t h hstep
  exact ⟨fun ha => ⟨h.after_step hstep (ha.noAltCallback hstep), ha.after_step hstep⟩, fun hc => h.after_step hstep hc⟩

/-! ### Runs (R53) -/

/-- What every step keeps, a run keeps. -/
theorem steps_induct {P : State → Prop} (keep : ∀ s t, P s → step s = .next t → P t) {n : Nat} {s t : State} (hs : P s)
    (h : steps n s = .next t) : P t := by
  induction n generalizing s with
  | zero => cases h; exact hs
  | succ n ih =>
    obtain ⟨u, hu, ht⟩ := andThen_eq_next.1 h
    exact ih (keep s u hs hu) ht

/-- Settles O60, by induction over the steps of the run with the invariant of O56. -/
theorem reachableOneInFlight : Obligations.ReachableOneInFlight := by
  intro queue n t h
  refine steps_induct (P := fun s => s.OneInFlight ∧ s.NoAlternate) ?keep ?start h
  case keep => exact fun s u ⟨hone, halt⟩ hstep => (stepKeepsOneInFlight s u hone hstep).1 halt
  case start => exact ⟨.of_idle rfl rfl, fun d => by cases d <;> nofun⟩

end Sys2Proof.Machine

/-!
PROOFS of the statements about memory (20_memory.md): the decoding of an address (R41 to R43), the place of a sector in its
image (R46, R47, R50), the bytes of images (R48, R49), what protects them (R51), and what a host access leaves alone (R40, R55).
-/

namespace Sys2Proof.Machine

/-! ### Bytes of an image (R48, R49) -/

/-- A store inside the image goes through (R49). -/
theorem imgWrite_inside {ses : Session} {off : Nat} (b : Byte) (ho : off < ses.size) :
    imgWrite ses off b = some { ses with img := ses.img.write off b } := if_pos ho

/-- What reads after a store inside the image: the byte at its place, every other place as before (R48, R49). -/
theorem imgRead_write {ses : Session} {off : Nat} (b : Byte) (hwf : ses.img.wf = true) (ho : off < ses.size) (a : Nat) :
    imgRead { ses with img := ses.img.write off b } a = if a = off then some b else imgRead ses a := by
  unfold imgRead Session.size at *
  dsimp only
  rw [read_write off a b hwf]
  by_cases ha : a = off
  · simp [ha, ho]
  · simp [ha]

/-- Settles O34: the store is `Memory.write`, which keeps the canonical form and is read back at its place only. -/
theorem imageReadAfterWrite : Obligations.ImageReadAfterWrite := by
  intro ses off b hwf ho
  refine ⟨_, imgWrite_inside b ho, write_wf off b hwf, ?same, fun a ha => ?other⟩
  case same => rw [imgRead_write b hwf ho, if_pos rfl]
  case other => rw [imgRead_write b hwf ho, if_neg ha]

/-! ### The place of a track and of a sector (R46, R47, R50) -/

section
variable {g : Geometry} (t : Nat)

/-- Side 0 without interleaved sides: the tracks follow each other (R50). -/
theorem trackBase_side0 (h : g.sides ≠ .interleaved) : trackBase g t false = t * g.bytesPerTrack := by
  cases hs : g.sides with
  | interleaved => exact absurd hs h
  | _ => simp only [trackBase, hs]

/-- Side 0 of interleaved sides: every other track (R50). -/
theorem trackBase_side0_interleaved (h : g.sides = .interleaved) : trackBase g t false = 2 * t * g.bytesPerTrack := by
  simp only [trackBase, h]

/-- Side 1 of sequential sides: after all of side 0 (R50). -/
theorem trackBase_side1_sequential (h : g.sides = .sequential) :
    trackBase g t true = (t + g.tracks) * g.bytesPerTrack := by
  simp only [trackBase, h]

/-- Side 1 of interleaved sides: each track after that of side 0 (R50). -/
theorem trackBase_side1_interleaved (h : g.sides = .interleaved) :
    trackBase g t true = (2 * t + 1) * g.bytesPerTrack := by
  simp only [trackBase, h]

end

/-- Settles O35: the sector's place in the track is added to the base of the track, which each layout has its own of. -/
theorem sectorOffsets : Obligations.SectorOffsets := by
  intro g t n
  exact ⟨fun h => congrArg (· + n * g.secsize) (trackBase_side0 t h),
    fun h => congrArg (· + n * g.secsize) (trackBase_side0_interleaved t h),
    fun h => congrArg (· + n * g.secsize) (trackBase_side1_sequential t h),
    fun h => congrArg (· + n * g.secsize) (trackBase_side1_interleaved t h)⟩

/-- An image is as many whole tracks as its geometry has on all sides (R46, R47). -/
theorem imageLength_eq_tracks {g : Geometry} (h : g.wf = true) :
    g.imageLength = g.tracks * g.sides.count * g.bytesPerTrack := by
  have total : g.totalSectors = g.tracks * g.spt * g.sides.count := by
    simp only [Geometry.wf, Bool.and_eq_true, decide_eq_true_eq] at h
    exact h.2
  unfold Geometry.imageLength Geometry.bytesPerTrack
  rw [total]
  ring

/-- A track that exists on a side that exists is one of the image's whole tracks (R46, R50). -/
theorem trackBase_eq_mul {g : Geometry} {t : Nat} {side : Bool} (ht : t < g.tracks)
    (hside : side = false ∨ g.sides ≠ .single) :
    ∃ k, k < g.tracks * g.sides.count ∧ trackBase g t side = k * g.bytesPerTrack := by
  cases hs : g.sides with
  | single =>
    have side0 : side = false := hside.resolve_right (· hs)
    subst side0
    exact ⟨t, by simpa [Sides.count] using ht, trackBase_side0 t (by simp [hs])⟩
  | sequential =>
    cases side with
    | false => exact ⟨t, by simp only [Sides.count]; omega, trackBase_side0 t (by simp [hs])⟩
    | true => exact ⟨t + g.tracks, by simp only [Sides.count]; omega, trackBase_side1_sequential t hs⟩
  | interleaved =>
    cases side with
    | false => exact ⟨2 * t, by simp only [Sides.count]; omega, trackBase_side0_interleaved t hs⟩
    | true => exact ⟨2 * t + 1, by simp only [Sides.count]; omega, trackBase_side1_interleaved t hs⟩

/-- A track that exists on a side that exists ends inside the image (R47, R50). -/
theorem trackBase_add_le {g : Geometry} {t : Nat} {side : Bool} (hg : g.wf = true) (ht : t < g.tracks)
    (hside : side = false ∨ g.sides ≠ .single) : trackBase g t side + g.bytesPerTrack ≤ g.imageLength := by
  obtain ⟨k, hk, hbase⟩ := trackBase_eq_mul ht hside
  calc trackBase g t side + g.bytesPerTrack
      = (k + 1) * g.bytesPerTrack := by rw [hbase, Nat.succ_mul]
    _ ≤ g.tracks * g.sides.count * g.bytesPerTrack := Nat.mul_le_mul_right _ hk
    _ = g.imageLength := (imageLength_eq_tracks hg).symm

/-- A sector that exists ends inside its track (R46). -/
theorem sector_end_le_bytesPerTrack {g : Geometry} {n : Nat} (hn : n < g.spt) :
    n * g.secsize + g.secsize ≤ g.bytesPerTrack := by
  rw [← Nat.succ_mul]
  exact Nat.mul_le_mul_right _ hn

/-- Settles O36: guards (e) and (g) put the track inside the image, guard (f) the sector inside the track. -/
theorem guardedSectorsInsideImage : Obligations.GuardedSectorsInsideImage := by
  intro s ses hg pass
  have track := trackBase_add_le hg pass.track pass.side
  have sector := sector_end_le_bytesPerTrack (pass.sector rfl)
  show trackBase _ _ _ + _ + _ ≤ ses.geo.imageLength
  omega

/-! ### What a host access leaves alone (R40, R49, R55, R254) -/

/-- A command changes no byte of an image: it starts an operation at most, or ends all (R40, R120). -/
theorem SameImages.exec {i : Instr} {s t : State} (h : exec i s = .next t) : SameImages s t := by
  cases exec_outcome h
  case ignored | declined | writeDeclined | invalid => exact .of_bound fun _ => rfl
  case positioned new dir _ _ _ => exact .of_bound (positionState_bound new _)
  case started k ses _ hb _ _ _ =>
    exact .of_session (s := { accepted i s with sts := patTransfer }) hb (by simp) (by simp)
  case writeStarted ses _ hb _ _ _ =>
    exact .of_session (s := { accepted i s with sts := patTransfer }) hb (by simp) (by simp)
  case forced => exact .abortAll s

/-- A write of the control register without the reset trigger latches the byte, and no more (R139). -/
theorem writeControl_of_no_reset {v : Byte} (h : resetOf profile v = false) (s : State) :
    writeControl v s = latchControl v s := by
  simp [writeControl, h]

/-- A write of the control register changes no byte of an image, whether it triggers the reset or not (R139, R241). -/
theorem SameImages.writeControl (v : Byte) (s : State) : SameImages s (writeControl v s) := by
  cases hr : resetOf profile v with
  | false => rw [writeControl_of_no_reset hr]; exact .of_bound fun _ => rfl
  | true => simp only [Machine.writeControl, hr, if_true]; exact .abortAll s

/-- Settles O49: of what a host access can do, only a command and a soft reset touch a drive, and neither touches a byte. -/
theorem hostAccessKeepsImages : Obligations.HostAccessKeepsImages := by
  intro s t tg v
  constructor
  · intro h
    cases perform_outcome h <;> exact .of_bound fun _ => rfl
  · intro h
    cases perform_outcome h
    case command h => exact .exec h
    case writeCtl => exact .writeControl v s
    case writeTrk | writeSec | writeDat => exact .of_bound fun _ => rfl

/-- Settles O52: of the writes only a command and the reset trigger reach the drives and the countdowns, and `ackDrq` of a
write of `dat` keeps BUSY. -/
theorem registerWritesKeepOperation : Obligations.RegisterWritesKeepOperation := by
  intro s t tg v h htg hreset
  cases perform_outcome h
  case command => exact absurd rfl htg
  case writeTrk | writeSec => exact ⟨fun _ => rfl, rfl, rfl, rfl, rfl⟩
  case writeDat => exact ⟨fun _ => rfl, rfl, rfl, busy_ackDrq s, rfl⟩
  case writeCtl =>
    rw [writeControl_of_no_reset (hreset rfl)]
    exact ⟨fun _ => rfl, rfl, rfl, rfl, rfl⟩

/-! ### Write protection (R51, R186) -/

/-- A drive protected by its flag, or by its session's (R51, R186). -/
def State.Protected (s : State) (d : DriveIx) : Prop := (s.drive d).wp = true ∨ ∃ g, s.medium d = .image g true

/-- The flag of a session is its medium's (R29). -/
theorem State.protected_iff {s : State} {d : DriveIx} :
    s.Protected d ↔ (s.drive d).wp = true ∨ ∃ ses, (s.drive d).bound = .image ses ∧ ses.swp = true := by
  simp [State.Protected, State.medium, Binding.medium_eq_image]

/-- A drive keeps its protection with its flag and its medium. -/
theorem State.Protected.congr {s t : State} {d : DriveIx} (h : s.Protected d) (hw : (t.drive d).wp = (s.drive d).wp)
    (hm : t.medium d = s.medium d) : t.Protected d := by
  unfold State.Protected; rwa [hw, hm]

/-- A poll keeps every byte where the protection holds: of the ways it can go, only those past the write-protect test store
(R181, R184, R186). -/
theorem PollOutcome.sameImages {d : DriveIx} {ses : Session} {s t : State} (h : PollOutcome d ses s t)
    (hb : (s.drive d).bound = .image ses) (hp : ((s.drive d).wp || ses.swp) = true) : SameImages s t := by
  have kept : ∀ ses', ses'.img = ses.img → ses'.geo = ses.geo → SameImages s (s.setSession d ses') :=
    fun _ hi hg => .of_session hb hi hg
  cases h
  case writeUnderrun hw _ | writeByte hw _ _ _ | writeLast hw _ _ _ | writeSpent hw _ _ _ | formatSector hw _ _
      | formatLast hw _ _ =>
    exact absurd (hp.symm.trans hw) nofun
  all_goals exact kept _ rfl rfl

/-- A poll of either drive changes no byte of a protected drive (R158, R186). -/
theorem State.Protected.poll_keeps {d j : DriveIx} {s t : State} (h : s.Protected d) (hp : backendPoll j s = .next t)
    (a : Nat) : imageByte t d a = imageByte s d a := by
  by_cases hj : d = j
  · subst hj
    obtain ⟨_, rfl⟩ | ⟨ses, hb, ho⟩ := backendPoll_cases hp
    · rfl
    · have test : ((s.drive d).wp || ses.swp) = true := by simpa [State.protected_iff, hb] using h
      exact ho.sameImages hb test d a
  · exact imageByte_congr (congrArg Drive.bound (poll_other hp hj)) a

/-- Settles O50: every part of a Tick keeps the protection and, under it, the bytes. -/
theorem protectedImageKept : Obligations.ProtectedImageKept := by
  intro s t d hprot htick
  refine (tick_induct (P := fun u => u.Protected d ∧ ∀ a, imageByte u d a = imageByte s d a) htick
    ⟨State.protected_iff.2 hprot, fun _ => rfl⟩ ?poll ?nf ?seek ?motor).2
  case poll =>
    exact fun j u v ⟨hu, bytes⟩ hv =>
      ⟨hu.congr (poll_wp_curtrk hv d).1 (medium_poll hv d), fun a => (hu.poll_keeps hv a).trans (bytes a)⟩
  all_goals
    intro u hu
    simpa [State.Protected, State.medium, imageByte] using hu

/-! ### No step faults (R47, R208) -/

/-- A sound session has no transfer that has left its image (R31, R47). -/
theorem Session.Sound.in_image {ses : Session} (h : ses.Sound) :
    (ses.st = .read → ses.pos < ses.size) ∧ (ses.st = .write → ses.pos < ses.size) ∧
    (ses.st = .format → ses.pos + ses.geo.secsize ≤ ses.size) := by
  have progress := h.progress
  unfold Session.InProgress at progress
  refine ⟨fun hst => ?_, fun hst => ?_, fun hst => ?_⟩ <;> rw [hst] at progress <;> dsimp only at progress
  · omega
  · omega
  · have one : ses.geo.secsize ≤ ses.cnt * ses.geo.secsize := Nat.le_mul_of_pos_left _ progress.1
    omega

/-- A poll of a drive whose session is sound does not fault (R47, R48, R49). -/
theorem backendPoll_no_fault {d : DriveIx} {s : State} (h : ∀ ses, (s.drive d).bound = .image ses → ses.Sound)
    (f : Fault) : backendPoll d s ≠ .fault f := by
  intro hf
  obtain ⟨ses, hb, out⟩ := backendPoll_fault hf
  obtain ⟨hread, hwrite, hformat⟩ := (h ses hb).in_image
  obtain ⟨hst, hp⟩ | ⟨hst, hp⟩ | ⟨hst, hp⟩ := out
  · exact absurd (hread hst) (by omega)
  · exact absurd (hwrite hst) (by omega)
  · exact absurd (hformat hst) (by omega)

/-- A Tick faults only where a poll does, the second after the first (R158, R230). -/
theorem tick_fault {s : State} {f : Fault} (h : tick s = .fault f) :
    backendPoll .d0 s = .fault f ∨ ∃ u, backendPoll .d0 s = .next u ∧ backendPoll .d1 u = .fault f := by
  obtain h | ⟨_, _, h⟩ := andThen_eq_fault.1 h
  · obtain h | ⟨u, hu, h⟩ := andThen_eq_fault.1 h
    · exact .inl h
    · obtain h | ⟨_, _, h⟩ := andThen_eq_fault.1 h
      · exact .inr ⟨u, hu, h⟩
      · cases h
  · cases h

/-- A Tick on sound sessions does not fault: the poll of drive 0 leaves drive 1's session as it is (R158). -/
theorem tick_no_fault {s : State} (h : ∀ d ses, (s.drive d).bound = .image ses → ses.Sound) (f : Fault) :
    tick s ≠ .fault f := by
  intro hf
  obtain hf | ⟨u, hu, hf⟩ := tick_fault hf
  · exact backendPoll_no_fault (h .d0) f hf
  · refine backendPoll_no_fault (fun ses hb => h .d1 ses ?_) f hf
    rwa [poll_other hu (by decide)] at hb

/-- Of the actions only a Tick can fault; the others answer a next state or a refusal (R208). -/
theorem perform_fault {a : Action} {s : State} {f : Fault} (h : perform a s = .fault f) : a = .tick := by
  cases a with
  | tick => rfl
  | write tg v =>
    cases tg with
    | control => cases h
    | chip n =>
      rcases chip_cases n with rfl | rfl | rfl | rfl
      · exact absurd h (exec_no_fault _ _ _)
      all_goals cases h
  | bind d g bytes ro => unfold perform bindImage at h; dsimp only at h; split_ifs at h
  | close d => unfold perform closeImage at h; dsimp only at h; split_ifs at h
  | altCallback d c => unfold perform alternateCallback at h; dsimp only at h; split at h <;> cases h
  | read | bindAlt | wprot | reset => cases h

/-- Settles O55: only a Tick can fault, and it does not where the sessions are sound. -/
theorem stepNeverFaults : Obligations.StepNeverFaults := by
  intro s f hs hf
  have htick := perform_fault hf
  rw [step, htick] at hf
  refine tick_no_fault (fun d ses hb => hs.sessions d ses ?_) f hf
  have drives : (nextAction s).2.drive d = s.drive d := by
    unfold nextAction; split <;> rfl
  rwa [drives] at hb

/-! ### The decoding of a host address (R41, R42, R43) -/

/-- Settles O4: the address bit decides between the two targets; the two low bits are the address modulo 4, and the address
bit is above them. -/
theorem hostAddressDecoded : Obligations.HostAddressDecoded := by
  intro p addr
  refine ⟨fun h => if_pos h, fun h => ⟨BitVec.ofNat 2 addr, if_neg h, BitVec.toNat_ofNat addr 2⟩, ?_, ?_⟩
  all_goals unfold ctrlAddrBit; omega

end Sys2Proof.Machine

/-!
PROOFS of the statements about the encoding (30_encoding.md): a command and its byte (R60 to R63), the rows of the opcode table
(R61), and the invariant that every step keeps, the bit of the status that carries no flag among it (R64).
-/

namespace Sys2Proof

/-! ### A command and its byte (R60, R61, R62) -/

/-- The byte of a command decodes to that command, with every bit that its row leaves free. -/
theorem decode_encode (i : Instr) : decode (encode i) = i := by
  cases i with
  | restore flags => revert flags; decide
  | seek flags => revert flags; decide
  | step low => revert low; decide
  | stepIn low => revert low; decide
  | stepOut low => revert low; decide
  | readSector low => revert low; decide
  | writeSectorA flags => revert flags; decide
  | writeSectorB flags => revert flags; decide
  | readAddress flags => revert flags; decide
  | forceInt flags => revert flags; decide
  | invalid flags => revert flags; decide
  | writeTrack flags => revert flags; decide

/-- Settles O1: a command is read from its first byte alone, which decodes to it. -/
theorem decodeEncodeAgree : Obligations.DecodeEncodeAgree := by
  intro i rest
  calc decodeBytes (encodeBytes i ++ rest)
      = .ok (decode (encode i), rest) := rfl
    _ = .ok (i, rest) := by rw [decode_encode]

/-- Every byte is the byte of the command it decodes to. -/
theorem encode_decode (v : Byte) : encode (decode v) = v := by
  revert v; decide

/-- A byte lies in one row of the opcode table only, that of the command it decodes to. -/
theorem opcodeTable_filter (v : Byte) : (opcodeTable.filter fun r => r.holds v) = [opcodeRow (decode v)] := by
  revert v; decide

/-- Settles O2: the rows that hold a byte are the row of its command and no other, so that row holds it. -/
theorem encodeDecodeAgree : Obligations.EncodeDecodeAgree := by
  intro v
  have row : opcodeRow (decode v) ∈ opcodeTable.filter fun r => r.holds v := by simp [opcodeTable_filter]
  exact ⟨encode_decode v, (List.mem_filter.1 row).2, opcodeTable_filter v⟩

/-- Settles O3: each of the twelve is the byte of its command. -/
theorem sampleCommandBytes : Obligations.SampleCommandBytes :=
  ⟨decode_encode (.restore 0xF#4), decode_encode (.seek 0x0#4), decode_encode (.step 0x10#5),
    decode_encode (.stepIn 0x0F#5), decode_encode (.stepOut 0x10#5), decode_encode (.readSector 0x1F#5),
    decode_encode (.writeSectorA 0x0#4), decode_encode (.writeSectorB 0x1#4), decode_encode (.readAddress 0x0#4),
    decode_encode (.forceInt 0x8#4), decode_encode (.invalid 0x5#4), decode_encode (.writeTrack 0x0#4)⟩

end Sys2Proof

namespace Sys2Proof.Machine

/-! ### The invariant of a session (R30 to R33, R46, R47) -/

/-- A geometry of R46 has sectors, and its sectors have bytes. -/
theorem wf_geometry_pos {g : Geometry} (h : g.wf = true) : 0 < g.spt ∧ 0 < g.secsize := by
  simp only [Geometry.wf, Bool.and_eq_true, decide_eq_true_eq] at h
  obtain ⟨⟨⟨⟨-, spt⟩, secsize⟩, -⟩, -⟩ := h
  exact ⟨spt, secsize⟩

section
variable {ses : Session}

/-- A countdown that has not ended is still in its range (R31, R179). -/
theorem Session.InProgress.counted (h : ses.InProgress) (hst : ses.st = .notFound) (hc : ses.cnt - 1 ≠ 0) :
    Session.InProgress { ses with cnt := ses.cnt - 1 } := by
  simp only [Session.InProgress, hst] at h ⊢
  omega

/-- After a byte that is not the last, the bytes left lie in the image (R180, R182). -/
theorem Session.InProgress.byteMoved (h : ses.InProgress) (hst : ses.st = .read ∨ ses.st = .write)
    (hc : ses.cnt - 1 ≠ 0) : Session.InProgress { ses with pos := ses.pos + 1, cnt := ses.cnt - 1 } := by
  rcases hst with hst | hst <;> simp only [Session.InProgress, Session.size, hst] at h ⊢ <;> omega

/-- After a formatted sector that is not the last, the sectors left lie in the image (R184). -/
theorem Session.InProgress.sectorFormatted (h : ses.InProgress) (hst : ses.st = .format) (hc : ses.cnt - 1 ≠ 0) :
    Session.InProgress { ses with pos := ses.pos + ses.geo.secsize, cnt := ses.cnt - 1 } := by
  simp only [Session.InProgress, Session.size, hst] at h ⊢
  have left : ses.cnt * ses.geo.secsize = (ses.cnt - 1) * ses.geo.secsize + ses.geo.secsize := by
    rw [← Nat.succ_mul, Nat.succ_eq_add_one, Nat.sub_add_cancel h.1]
  omega

namespace Session.Sound
variable (h : ses.Sound)
include h

/-- The divider may take any value of its range (R33, R177). -/
theorem withDiv {n : Nat} (hn : n < byteDivider) : Session.Sound { ses with div := n } :=
  ⟨h.geo, h.form, h.inside, hn, h.stage, h.asec, h.progress⟩

/-- The operation may be any that is sound in its place (R30 to R32). -/
theorem withOperation {st : OpState} {pos cnt : Nat}
    (progress : Session.InProgress { ses with st := st, pos := pos, cnt := cnt }) :
    Session.Sound { ses with st := st, pos := pos, cnt := cnt } :=
  ⟨h.geo, h.form, h.inside, h.div, h.stage, h.asec, progress⟩

/-- An operation may end anywhere (R185, R190). -/
theorem ended {pos cnt : Nat} : Session.Sound { ses with st := .idle, pos := pos, cnt := cnt } :=
  h.withOperation trivial

/-- The stage may take any value of its range (R31, R183). -/
theorem withStage {n : Nat} (hn : n ≤ 6) : Session.Sound { ses with stage := n } :=
  ⟨h.geo, h.form, h.inside, h.div, hn, h.asec, h.progress⟩

/-- The address pointer may take any value of its range (R33, R183). -/
theorem withAsec {n : Nat} (hn : n < ses.geo.spt) : Session.Sound { ses with asec := n } :=
  ⟨h.geo, h.form, h.inside, h.div, h.stage, hn, h.progress⟩

/-- A byte stored inside the image keeps it canonical and inside its length (R49). -/
theorem stored {off : Nat} (b : Byte) (ho : off < ses.size) :
    Session.Sound { ses with img := ses.img.write off b } :=
  ⟨h.geo, write_wf off b h.form, write_within b h.inside ho, h.div, h.stage, h.asec, h.progress⟩

/-- So does a run of filler inside the image (R184). -/
theorem filled {off n : Nat} (b : Byte) (ho : off + n ≤ ses.size) :
    Session.Sound { ses with img := ses.img.fill off n b } :=
  ⟨h.geo, fill_wf b n off h.form, fill_within b n off h.inside ho, h.div, h.stage, h.asec, h.progress⟩

end Session.Sound

/-- The operation that a transfer's start leaves: by the guards of R172 the transfer lies in the image; else the not-found
countdown is whole (R173 to R175). -/
theorem beginTransfer_inProgress (k : Transfer) (s : State) (hg : ses.geo.wf = true) :
    (beginTransfer k (s.drive s.drv).curtrk (requestOf s) ses).InProgress := by
  obtain ⟨spt, secsize⟩ := wf_geometry_pos hg
  unfold beginTransfer
  split
  case isFalse => exact ⟨(by decide : 1 ≤ notFoundTicks), Nat.le_refl _⟩
  case isTrue hguards =>
    have pass := (guardsHold_iff k s ses).1 hguards
    cases k with
    | readSector | writeSector => exact ⟨secsize, Nat.le_refl _, guardedSectorsInsideImage s ses hg pass⟩
    | readAddress => trivial
    | format =>
      have track : sectorOffset ses.geo s.trk.toNat s.side 0 + ses.geo.spt * ses.geo.secsize ≤ ses.size := by
        simpa [sectorOffset, Geometry.bytesPerTrack, Session.size] using trackBase_add_le hg pass.track pass.side
      exact ⟨spt, Nat.le_refl _, track⟩

/-- A transfer's start resets the stage or leaves it (R174, R175). -/
theorem beginTransfer_stage_le (k : Transfer) (c : Nat) (r : Request) : (beginTransfer k c r ses).stage ≤ ses.stage := by
  unfold beginTransfer
  split
  · cases k <;> simp
  · exact Nat.le_refl _

/-- A transfer's start keeps the session sound (R173 to R175). -/
theorem Session.Sound.begun (h : ses.Sound) (k : Transfer) (s : State) :
    (beginTransfer k (s.drive s.drv).curtrk (requestOf s) ses).Sound where
  geo := by simpa using h.geo
  form := by simpa using h.form
  inside := by simpa [Session.size] using h.inside
  div := by simpa using h.div
  stage := (beginTransfer_stage_le ..).trans h.stage
  asec := by simpa using h.asec
  progress := beginTransfer_inProgress k s h.geo

end

/-- A fresh session is sound where BIND accepts its geometry and its image (R46, R47, R160). -/
theorem newSession_sound {g : Geometry} {bytes : List Byte} (ro : Bool) (hg : g.wf = true) (hf : g.fits bytes = true) :
    (newSession g bytes ro).Sound where
  geo := hg
  form := ofBytes_wf bytes
  inside := by
    have length : bytes.length = g.imageLength := by simpa [Geometry.fits] using hf
    exact ofBytes_within bytes 0 _ (by rw [Nat.zero_add, length]; exact Nat.le_refl _)
  div := (by decide : 0 < byteDivider)
  stage := Nat.zero_le _
  asec := (wf_geometry_pos hg).1
  progress := trivial

/-! ### The invariant of the machine under each operation (R20, R34, R64) -/

theorem isFlag_stMotor : isFlag stMotor = true := by simp [isFlag, flagPositions, stMotor]
theorem isFlag_stDrq : isFlag stDrq = true := by simp [isFlag, flagPositions, stDrq]

/-- Setting a flag keeps a bit that carries none clear (R64). -/
theorem unused_setBit {v : Byte} {m n : Nat} (hm : isFlag m = true) (hn : isFlag n = false)
    (hv : v.getLsbD n = false) : (setBit v m).getLsbD n = false := by
  have other : n ≠ m := fun e => absurd hm (by rw [← e, hn]; decide)
  simp [hv, other]

/-- Force Interrupt sets no bit without a flag (R64, R120). -/
theorem unused_forceStatus {s : State} {n : Nat} (hn : isFlag n = false) (hs : s.sts.getLsbD n = false) :
    (forceStatus s).getLsbD n = false := by
  unfold forceStatus
  split
  · exact unused_clearBit hs
  · exact unused_patIdle _ hn

/-- The not-found countdown never rises (R158). -/
theorem nfStep_nfCount_le (s : State) : (nfStep s).nfCount ≤ s.nfCount := by
  unfold nfStep
  split_ifs <;> simp

/-- The motor's step turns the motor off, or lowers its countdown at most (R222, R223). -/
theorem motorStep_cases (s : State) :
    motorStep s = spinDownNow s ∨ ∃ n, n ≤ s.spindown ∧ motorStep s = { s with spindown := n } := by
  unfold motorStep
  split
  · split
    · exact .inl rfl
    · exact .inr ⟨_, Nat.sub_le _ 1, rfl⟩
  · exact .inr ⟨s.spindown, Nat.le_refl _, rfl⟩

namespace State.Sound
section
variable {s t : State} (h : s.Sound)
include h

/-- The invariant looks at the status, the two countdowns and the bindings only. -/
theorem congr (hsts : t.sts = s.sts) (hsd : t.spindown = s.spindown) (hnf : t.nfCount = s.nfCount)
    (hb : ∀ d, (t.drive d).bound = (s.drive d).bound) : t.Sound where
  unused := by rw [hsts]; exact h.unused
  spindown := by rw [hsd]; exact h.spindown
  nfCount := by rw [hnf]; exact h.nfCount
  sessions d ses hd := h.sessions d ses ((hb d).symm.trans hd)

/-- The status may be any in which the bit without a flag is clear (R64, R65). -/
theorem withStatus {v : Byte} (hv : ∀ {n}, isFlag n = false → v.getLsbD n = false) :
    State.Sound { s with sts := v } :=
  ⟨fun _ => hv, h.spindown, h.nfCount, h.sessions⟩

/-- The motor's countdown may take any value of its range (R20). -/
theorem withSpindown {n : Nat} (hn : n ≤ spindownTicks) : State.Sound { s with spindown := n } :=
  ⟨h.unused, hn, h.nfCount, h.sessions⟩

/-- The not-found countdown may take any value of its range (R34). -/
theorem withNfCount {n : Nat} (hn : n ≤ notFoundTicks) : State.Sound { s with nfCount := n } :=
  ⟨h.unused, h.spindown, hn, h.sessions⟩

/-- A sound session or none may be bound to a drive (R160, R161). -/
theorem rebound {d : DriveIx} {b : Binding} (hd : ∀ j, (t.drive j).bound = if j = d then b else (s.drive j).bound)
    (hb : ∀ ses, b = .image ses → ses.Sound) (hsts : t.sts = s.sts) (hsd : t.spindown = s.spindown)
    (hnf : t.nfCount = s.nfCount) : t.Sound where
  unused := by rw [hsts]; exact h.unused
  spindown := by rw [hsd]; exact h.spindown
  nfCount := by rw [hnf]; exact h.nfCount
  sessions j ses hj := by
    rw [hd] at hj
    split at hj
    · exact hb ses hj
    · exact h.sessions j ses hj

/-- A sound session may be put into a drive (R26). -/
theorem setSession (d : DriveIx) {ses : Session} (hses : ses.Sound) : (s.setSession d ses).Sound := by
  refine h.rebound (d := d) (b := .image ses) (fun j => ?_) (fun _ hb => ?_) rfl rfl rfl
  · rw [drive_setSession]; split <;> rfl
  · cases hb; exact hses

/-- A status with one more flag set (R64). -/
theorem withFlag {n : Nat} (hn : isFlag n = true) : State.Sound { s with sts := setBit s.sts n } :=
  h.withStatus fun hi => unused_setBit hn hi (h.unused _ hi)

/-- A status with a bit less (R64). -/
theorem withoutBit (n : Nat) : State.Sound { s with sts := clearBit s.sts n } :=
  h.withStatus fun hi => unused_clearBit (h.unused _ hi)

/-- Abort stops the sessions; the registers may be any of their ranges (R120, R185, R240, R241). -/
theorem aborted (hsts : ∀ {n}, isFlag n = false → t.sts.getLsbD n = false) (hsd : t.spindown ≤ spindownTicks)
    (hnf : t.nfCount ≤ notFoundTicks) (hd : ∀ d, t.drive d = (abortAll s).drive d) : t.Sound where
  unused _ := hsts
  spindown := hsd
  nfCount := hnf
  sessions d ses hb := by
    rw [hd, abortAll_drive] at hb
    cases hs : (s.drive d).bound with
    | image before =>
      rw [hs] at hb
      cases hb
      exact (h.sessions d before hs).ended
    | empty | alt => rw [hs] at hb; cases hb

/-! #### The motor and the callbacks (R81, R200 to R206, R221, R222) -/

theorem spinUp : (spinUp s).Sound :=
  ((h.withFlag isFlag_stMotor).withSpindown (Nat.le_refl _)).congr rfl rfl rfl fun _ => rfl

theorem startSpinDown : (startSpinDown s).Sound := h.withSpindown (Nat.le_refl _)

theorem spinDownNow : (spinDownNow s).Sound :=
  ((h.withoutBit stMotor).withSpindown (Nat.zero_le _)).congr rfl rfl rfl fun _ => rfl

theorem raiseDrq : (raiseDrq s).Sound := (h.withFlag isFlag_stDrq).congr rfl rfl rfl fun _ => rfl

theorem ackDrq : (ackDrq s).Sound := (h.withoutBit stDrq).congr rfl rfl rfl fun _ => rfl

theorem cbDataReady (b : Byte) : (cbDataReady b s).Sound := h.raiseDrq.congr rfl rfl rfl fun _ => rfl

/-- An operation that ends with a spin-down of the motor (R201, R216). -/
theorem cbFinished : (cbFinished s).Sound :=
  (h.withStatus (unused_patDone s.cmd s.trk)).startSpinDown.congr rfl rfl rfl fun _ => rfl

/-- An operation that ends with an error pattern and the motor off (R202 to R205, R122, R216). -/
theorem completeOff (e : Event) {pat : Byte} (hp : ∀ {n}, isFlag n = false → pat.getLsbD n = false) :
    (complete e pat Machine.spinDownNow s).Sound :=
  (h.withStatus hp).spinDownNow.congr rfl rfl rfl fun _ => rfl

theorem cbNotFound : (cbNotFound s).Sound := h.completeOff .notFound unused_patNotFound

theorem cbWriteProtect : (cbWriteProtect s).Sound := h.completeOff .wrProt unused_patWrProt

theorem runCallback (c : Callback) : (runCallback c s).Sound := by
  have taken : State.Sound { s with written := false } := h.congr rfl rfl rfl fun _ => rfl
  cases c with
  | dataReady b => exact h.cbDataReady b
  | finished => exact h.cbFinished
  | notFound => exact h.cbNotFound
  | dataCrcError => exact h.completeOff .dataCrc unused_patDataCrc
  | headerCrcError => exact h.completeOff .headCrc unused_patHeadCrc
  | writeProtect => exact h.cbWriteProtect
  | pull last =>
    rw [runCallback_pull]
    split_ifs
    · exact taken
    · exact taken.raiseDrq
    · exact h

/-! #### A Tick (R158, R190, R230) -/

/-- A poll of an image drive keeps the invariant, whichever way it goes: the transfer moves on inside the image, or ends. -/
theorem after_outcome {d : DriveIx} {ses : Session} (ho : PollOutcome d ses s t)
    (hb : (s.drive d).bound = .image ses) : t.Sound := by
  have hses := h.sessions d ses hb
  have hwrap : Session.Sound { ses with div := 0 } := hses.withDiv (by decide)
  have taken : State.Sound { s with written := false } := h.congr rfl rfl rfl fun _ => rfl
  cases ho
  case throttled hd => exact h.setSession d (hses.withDiv hd)
  case idle | writeUnderrun | addrPast => exact h.setSession d hwrap
  case notFoundCounts hst hc => exact h.setSession d (hwrap.withOperation (hses.progress.counted hst hc))
  case notFoundEnds => exact (h.setSession d hwrap.ended).cbNotFound
  case readByte hst _ hc =>
    exact (h.setSession d (hwrap.withOperation (hses.progress.byteMoved (.inl hst) hc))).cbDataReady _
  case readLast => exact ((h.setSession d hwrap.ended).cbDataReady _).cbFinished
  case writeProtected | formatProtected => exact (h.setSession d hwrap.ended).cbWriteProtect
  case writeByte hst _ _ hp hc =>
    exact taken.raiseDrq.setSession d ((hwrap.stored _ hp).withOperation (hses.progress.byteMoved (.inr hst) hc))
  case writeLast hp _ => exact (taken.setSession d (hwrap.stored _ hp).ended).cbFinished
  case writeSpent hp _ => exact (taken.raiseDrq.setSession d (hwrap.stored _ hp).ended).cbFinished
  case addrByte hstage => exact (h.setSession d (hwrap.withStage hstage)).cbDataReady _
  case addrEnds =>
    have asec := Nat.mod_lt (ses.asec + 1) (wf_geometry_pos hses.geo).1
    exact (h.setSession d (hwrap.withAsec asec).ended).cbFinished
  case formatSector hst _ hp hc =>
    exact h.setSession d ((hwrap.filled _ hp).withOperation (hses.progress.sectorFormatted hst hc))
  case formatLast hp _ => exact (h.setSession d (hwrap.filled _ hp).ended).cbFinished

theorem after_poll {d : DriveIx} (hp : backendPoll d s = .next t) : t.Sound := by
  obtain ⟨_, rfl⟩ | ⟨ses, hb, ho⟩ := backendPoll_cases hp
  · exact h
  · exact h.after_outcome ho hb

theorem after_nfStep : (nfStep s).Sound := by
  have low := nfStep_nfCount_le s
  obtain ⟨_, e⟩ | ⟨n, _, e⟩ := nfStep_cases s <;> rw [e] at low ⊢
  · exact (h.withNfCount (Nat.zero_le _)).cbNotFound
  · exact h.withNfCount (low.trans h.nfCount)

theorem after_seekStep : (seekStep s).Sound := by
  obtain ⟨_, e⟩ | ⟨n, _, e⟩ := seekStep_cases s <;> rw [e]
  · exact State.Sound.cbFinished (h.congr rfl rfl rfl fun _ => rfl)
  · exact h.congr rfl rfl rfl fun _ => rfl

theorem after_motorStep : (motorStep s).Sound := by
  obtain e | ⟨n, low, e⟩ := motorStep_cases s <;> rw [e]
  · exact h.spinDownNow
  · exact h.withSpindown (low.trans h.spindown)

theorem after_tick (ht : tick s = .next t) : t.Sound :=
  tick_induct ht h (fun _ _ _ hu hv => hu.after_poll hv) (fun _ hu => hu.after_nfStep) (fun _ hu => hu.after_seekStep)
    (fun _ hu => hu.after_motorStep)

/-! #### The host, the environment and the step (R4) -/

/-- The demand for a first byte and the fall-through of a write (R102, R103). -/
theorem armed (v : Byte) : (writeFallThrough v { Machine.raiseDrq s with written := false }).Sound := by
  have demand : State.Sound { Machine.raiseDrq s with written := false } := h.raiseDrq.congr rfl rfl rfl fun _ => rfl
  rw [writeFallThrough_eq]
  split
  · exact demand.withStatus unused_patTransfer
  · exact demand

/-- A command keeps it: what it starts is sound, Force Interrupt stops what ran (R80 to R122). -/
theorem after_exec {i : Instr} (he : exec i s = .next t) : t.Sound := by
  have latched : State.Sound { s with cmd := encode i } := h.congr rfl rfl rfl fun _ => rfl
  have spun : (accepted i s).Sound := latched.spinUp
  have moving : State.Sound { accepted i s with sts := patTransfer } := spun.withStatus unused_patTransfer
  cases exec_outcome he
  case ignored => exact h
  case positioned new dir _ _ _ =>
    exact (spun.withStatus (unused_patPosition new)).congr rfl rfl rfl (positionState_bound new _)
  case started k ses _ hb _ _ _ => exact moving.setSession _ ((h.sessions _ ses hb).begun k s)
  case declined => exact moving.withNfCount (Nat.le_refl _)
  case writeStarted ses _ hb _ _ _ =>
    exact (moving.setSession _ ((h.sessions _ ses hb).begun .writeSector s)).armed _
  case writeDeclined => exact (moving.withNfCount (Nat.le_refl _)).armed _
  case forced =>
    refine h.aborted (fun hn => ?_) (Nat.le_refl _) (Nat.zero_le _) fun _ => rfl
    exact unused_forceStatus hn (h.unused _ hn)
  case invalid => exact spun.completeOff .badCmd unused_patNotFound

theorem after_writeControl (v : Byte) : (writeControl v s).Sound := by
  unfold writeControl
  split
  · exact h.aborted (fun _ => BitVec.getLsbD_zero) (Nat.zero_le _) (Nat.zero_le _) fun _ => rfl
  · exact h.congr rfl rfl rfl fun _ => rfl

/-- Every action keeps it (R4). -/
theorem after_action {a : Action} (ho : ActionOutcome s a t) : t.Sound := by
  cases ho
  case readSts | readTrk | readSec | readCtl | writeTrk | writeSec => exact h.congr rfl rfl rfl fun _ => rfl
  case readDat | writeDat => exact h.ackDrq.congr rfl rfl rfl fun _ => rfl
  case command v he => exact h.after_exec he
  case writeCtl v => exact h.after_writeControl v
  case tick ht => exact h.after_tick ht
  case bind d g bytes ro _ hg hf =>
    refine h.rebound (rebind_bound d · _ s) (fun ses hses => ?_) rfl rfl rfl
    cases hses
    exact newSession_sound ro hg hf
  case close d _ =>
    refine h.rebound (d := d) (b := .empty) (fun j => ?_) nofun rfl rfl rfl
    by_cases hj : j = d <;> simp [rebind_bound, abort_drive, hj]
  case wprot d p => exact h.congr rfl rfl rfl (setWriteProtect_bound d · p s)
  case reset => exact h.aborted (fun _ => BitVec.getLsbD_zero) (Nat.zero_le _) (Nat.zero_le _) fun _ => rfl
  case callback d c _ => exact h.runCallback c

end
end State.Sound

/-- Settles O54: the invariant does not look at the queue, and every action keeps it. -/
theorem stepKeepsSound : Obligations.StepKeepsSound := by
  intro s t h hstep
  obtain ⟨q, -, ho⟩ := step_outcome hstep
  have h' : State.Sound { s with inbox := q } := h.congr rfl rfl rfl fun _ => rfl
  exact h'.after_action ho

end Sys2Proof.Machine

/-!
PROOFS of the statements about positioning (40_positioning.md): the positioning commands (R82 to R88), the Tick that ends one
(R89), and the step that runs a written command (R80).
-/

namespace Sys2Proof.Machine

/-! ### The positioning commands (R82 to R88) -/

/-- The drives after an accepted positioning command: the head of the selected one moves (R82, R152). -/
theorem positionState_accepted_drive (i : Instr) (new : Byte) (dir : StepDir) (s : State) (j : DriveIx) :
    (positionState new { accepted i s with stepdir := dir }).drive j =
      if j = s.drv then { s.drive s.drv with curtrk := new.toNat } else s.drive j := positionState_drive new _ j

/-- What the five do alike, whatever the new track and the direction (R80, R81, R82, R152). -/
theorem positionState_positioned (i : Instr) (new : Byte) (dir : StepDir) (s : State) :
    Positioned s (positionState new { accepted i s with stepdir := dir }) (encode i) new where
  cmd       := rfl
  trk       := rfl
  sts       := rfl
  curtrk    := by rw [positionState_accepted_drive, if_pos rfl]
  seekCount := rfl
  motorOn   := rfl
  spindown  := rfl

/-- What the five leave alone: all but the head of the selected drive among the drives, and every image (R82). -/
theorem positionState_frame (i : Instr) (new : Byte) (dir : StepDir) (s : State) :
    PositioningFrame s (positionState new { accepted i s with stepdir := dir }) where
  command   := ⟨rfl, rfl, rfl, rfl, rfl, rfl, rfl, rfl, rfl⟩
  written   := rfl
  irqDone   := rfl
  irqDrq    := rfl
  nfCount   := rfl
  other d h := by rw [positionState_accepted_drive, if_neg h]
  wp        := by rw [positionState_accepted_drive, if_pos rfl]
  bound     := positionState_bound new _ s.drv
  images    := .of_bound (positionState_bound new _)

/-- A command whose class rule is a seek to track `new` with direction `dir`, on an idle controller and a drive that holds no
alternate backend (R82). -/
theorem exec_positioning {i : Instr} {new : Byte} {dir : StepDir} {s : State} (hi : ∀ flags, i ≠ .forceInt flags)
    (rule : classRule i (accepted i s) = positionTo new { accepted i s with stepdir := dir })
    (hb : s.busy = false) (ha : (s.drive s.drv).bound ≠ .alt) :
    ∃ t, exec i s = .next t ∧ Positioned s t (encode i) new ∧ t.stepdir = dir ∧ PositioningFrame s t := by
  have taken : exec i s = .next (positionState new { accepted i s with stepdir := dir }) :=
    calc exec i s
        = classRule i (accepted i s) := exec_idle hb hi
      _ = positionTo new { accepted i s with stepdir := dir } := rule
      _ = .next (positionState new { accepted i s with stepdir := dir }) := positionTo_next ha
  exact ⟨_, taken, positionState_positioned i new dir s, rfl, positionState_frame i new dir s⟩

/-- Settles O8: RESTORE seeks track 0 and keeps the direction. -/
theorem restoreResult : Obligations.RestoreResult := fun _ s hb ha =>
  exec_positioning (dir := s.stepdir) nofun rfl hb ha

/-- Settles O9: SEEK seeks the track in `dat`, which acceptance keeps, and keeps the direction. -/
theorem seekResult : Obligations.SeekResult := fun _ s hb ha =>
  exec_positioning (new := s.dat) (dir := s.stepdir) nofun rfl hb ha

/-- Settles O11: STEP_IN seeks the next track inward, modulo 256. -/
theorem stepInResult : Obligations.StepInResult := by
  intro low s hb ha
  obtain ⟨t, next, done, dir, frame⟩ := exec_positioning (i := .stepIn low) nofun rfl hb ha
  exact ⟨t, stepTrack .inward s.trk, next, done, stepTrack_inward s.trk, dir, frame⟩

/-- Settles O12: STEP_OUT seeks the next track outward, modulo 256. -/
theorem stepOutResult : Obligations.StepOutResult := by
  intro low s hb ha
  obtain ⟨t, next, done, dir, frame⟩ := exec_positioning (i := .stepOut low) nofun rfl hb ha
  exact ⟨t, stepTrack .outward s.trk, next, done, stepTrack_outward s.trk, dir, frame⟩

/-! ### The Tick that ends a positioning command (R89, R158, R223) -/

/-- A not-found countdown that does not run takes no step (R158). -/
theorem nfStep_spent {s : State} (h : s.nfCount = 0) : nfStep s = s := by simp [nfStep, h]

/-- The seek countdown before its last step (R158). -/
theorem seekStep_counting {s : State} (h : 1 < s.seekCount) : seekStep s = { s with seekCount := s.seekCount - 1 } := by
  rw [seekStep, if_pos (by omega), if_neg (by omega)]

/-- The last step of the seek countdown (R89, R158). -/
theorem seekStep_last {s : State} (h : s.seekCount = 1) : seekStep s = cbFinished { s with seekCount := 0 } := by
  simp [seekStep, h]

/-- The seek countdown falls by one, whether it ends or not (R158). -/
@[simp] theorem seekStep_seekCount (s : State) : (seekStep s).seekCount = s.seekCount - 1 := by
  unfold seekStep
  split_ifs with hpos hlast
  · exact hlast.symm
  · rfl
  · omega

@[simp] theorem seekStep_trk (s : State) : (seekStep s).trk = s.trk := by unfold seekStep; split_ifs <;> rfl
@[simp] theorem seekStep_cmd (s : State) : (seekStep s).cmd = s.cmd := by unfold seekStep; split_ifs <;> rfl

/-- The motor's step before the last one of its timer (R223). -/
theorem motorStep_counting {s : State} (h : 1 < s.spindown) : motorStep s = { s with spindown := s.spindown - 1 } := by
  rw [motorStep, if_pos (by omega), if_neg (by omega)]

@[simp] theorem motorStep_cmd (s : State) : (motorStep s).cmd = s.cmd := by unfold motorStep; split_ifs <;> rfl
@[simp] theorem motorStep_trk (s : State) : (motorStep s).trk = s.trk := by unfold motorStep; split_ifs <;> rfl
@[simp] theorem motorStep_irqDone (s : State) : (motorStep s).irqDone = s.irqDone := by
  unfold motorStep; split_ifs <;> rfl
@[simp] theorem motorStep_seekCount (s : State) : (motorStep s).seekCount = s.seekCount := by
  unfold motorStep; split_ifs <;> rfl

/-- The status a positioning command ends with has the track-0 term (R65, R66). -/
theorem patDone_positioning {cmd : Byte} (h : (opOf cmd).toNat ≤ 7) (trk : Byte) :
    patDone cmd trk = bit stMotor ||| trackZero trk := if_pos (decide_eq_true h)

/-- The motor's step on the Tick that finishes an operation: the spin-down has just been restarted, and counts (R201, R223,
R230). -/
theorem motorStep_cbFinished (s : State) :
    motorStep (cbFinished s) = { cbFinished s with spindown := spindownTicks - 1 } :=
  motorStep_counting (s := cbFinished s) (by rw [cbFinished_spindown]; decide)

/-- Settles O38: with nothing else in flight the Tick is the seek countdown's step, then the motor's, which keeps BUSY; on the
last step the seek's is `finished`. -/
theorem positioningEnds : Obligations.PositioningEnds := by
  intro s h0 h1 hnf _ hcmd
  obtain ⟨x, y, ht, hx, hy⟩ := tick_idle h0 h1
  rw [nfStep_spent (s := (s.setDrive .d0 x).setDrive .d1 y) hnf] at ht
  refine ⟨_, ht, by simp, by simp, by simp, fun d => ?heads, fun hmore => ?before, fun hone => ?last⟩
  case heads =>
    rw [motorStep_drive, seekStep_drive]
    cases d
    · exact hx
    · exact hy
  case before =>
    rw [motorStep_irqDone, ← busy_eq, busy_motorStep, seekStep_counting, ← busy_eq]
    · exact ⟨rfl, rfl⟩
    · exact hmore
  case last =>
    rw [seekStep_last, motorStep_cbFinished]
    · exact ⟨patDone_positioning hcmd s.trk, rfl, rfl⟩
    · exact hone

/-! ### The step that runs a command (R80, R138) -/

/-- The next action is the first of the queue, which is taken off it (log 7). -/
theorem nextAction_of_inbox {s : State} {a : Action} {rest : List Action} (h : s.inbox = a :: rest) :
    nextAction s = (a, { s with inbox := rest }) := by simp only [nextAction, h]

/-- Settles O5: the write of `CHIP(0)` at the front of the queue is the next action, and is performed as the command. -/
theorem stepRunsDecodedCommand : Obligations.StepRunsDecodedCommand := by
  intro s v rest h
  calc step s
      = perform (.write (.chip 0) v) { s with inbox := rest } := by rw [step, nextAction_of_inbox h]
    _ = exec (decode v) { s with inbox := rest } := rfl

end Sys2Proof.Machine

/-!
PROOFS of the statements about the transfer commands (41_transfer.md): each is one dispatch call (R153 to R157) made on the
accepted state with the registers the command leaves (R100 to R105), so one argument over the three bindings serves them all.
-/

namespace Sys2Proof.Machine

/-! ### The dispatch call, by binding (R153 to R157, R173) -/

section
variable {k : Transfer} {d : DriveIx} {r : Request} {s : State}

theorem dispatchTransfer_image {ses : Session} (h : (s.drive d).bound = .image ses) :
    dispatchTransfer k d r s = .next (s.setSession d (beginTransfer k (s.drive d).curtrk r ses)) := by
  simp only [dispatchTransfer, h]

theorem dispatchTransfer_empty (h : (s.drive d).bound = .empty) :
    dispatchTransfer k d r s = .next { s with nfCount := notFoundTicks } := by
  simp only [dispatchTransfer, h]

theorem dispatchTransfer_alt (h : (s.drive d).bound = .alt) : dispatchTransfer k d r s = .refused .altBackend := by
  simp only [dispatchTransfer, h]

/-- Transfer `k`, requested now on the selected drive, makes `started ses` of a session whose guards hold (R174, R175). -/
def BeginsAs (k : Transfer) (s : State) (started : Session → Session) : Prop :=
  ∀ ses, guardsHold k ses (s.drive s.drv).curtrk (requestOf s) = true →
    beginTransfer k (s.drive s.drv).curtrk (requestOf s) ses = started ses

/-- Passing guards start the transfer (R172, R174, R175). -/
theorem BeginsAs.begun {started : Session → Session} {ses : Session} (h : BeginsAs k s started)
    (pass : GuardsPass s ses k.hasSector) : beginTransfer k (s.drive s.drv).curtrk (requestOf s) ses = started ses :=
  h ses ((guardsHold_iff k s ses).2 pass)

/-- A failing guard starts the backend's countdown, and no other field of the session changes (R173). -/
theorem beginTransfer_declined {ses : Session} (h : ¬ GuardsPass s ses k.hasSector) :
    beginTransfer k (s.drive s.drv).curtrk (requestOf s) ses = { ses with st := .notFound, cnt := notFoundTicks } :=
  if_neg (mt (guardsHold_iff k s ses).1 h)

end

/-! ### Every transfer command is one dispatch call (R100 to R105) -/

/-- The state in which command `i`'s dispatch call is made: accepted (R80, R81), with the three registers that tell the
transfer commands apart. -/
def transferRegs (i : Instr) (s : State) (sts : Byte) (drq written : Bool) : State :=
  { accepted i s with sts := sts, irqDrq := drq, written := written }

@[simp] theorem transferRegs_drive (i : Instr) (s : State) (sts : Byte) (drq written : Bool) (j : DriveIx) :
    (transferRegs i s sts drq written).drive j = s.drive j := rfl

/-- The status WRITE_SECTOR leaves for command byte `v`: `PAT_WRITE`, unless its nibble falls through (R102, R103). -/
def writeStatus (v : Byte) : Byte := if opOf v = wsQuirkNibble then patTransfer else patWrite

/-- Arming the data request touches no drive and no countdown, so it may as well come before the call (R102, R103). -/
theorem writeSectorRule_accepted (i : Instr) (s : State) :
    writeSectorRule (encode i) (accepted i s) =
      dispatchTransfer .writeSector s.drv (requestOf s) (transferRegs i s (writeStatus (encode i)) true false) := by
  cases h : (s.drive s.drv).bound with
  | image ses =>
    rw [writeSectorRule, startTransfer_image (s := accepted i s) h, dispatchTransfer_image (by rwa [transferRegs_drive])]
    rfl
  | empty =>
    rw [writeSectorRule, startTransfer_empty (s := accepted i s) h, dispatchTransfer_empty (by rwa [transferRegs_drive])]
    rfl
  | alt =>
    rw [writeSectorRule, startTransfer_alt (s := accepted i s) h, dispatchTransfer_alt (by rwa [transferRegs_drive])]
    rfl

section
variable {i : Instr} {k : Transfer} {s : State}

/-- READ_SECTOR, READ_ADDRESS and WRITE_TRACK leave the data request and `written` alone (R101, R104, R105). -/
theorem exec_transfer (hi : ∀ flags, i ≠ .forceInt flags) (rule : classRule i = startTransfer k) (hb : s.busy = false) :
    exec i s = dispatchTransfer k s.drv (requestOf s) (transferRegs i s patTransfer s.irqDrq s.written) :=
  calc exec i s
      = classRule i (accepted i s) := exec_idle hb hi
    _ = startTransfer k (accepted i s) := by rw [rule]
    _ = dispatchTransfer k s.drv (requestOf s) (transferRegs i s patTransfer s.irqDrq s.written) := rfl

/-- WRITE_SECTOR with either nibble arms the data request and demands a first byte (R102, R103). -/
theorem exec_writeSector (hi : ∀ flags, i ≠ .forceInt flags) (rule : classRule i = writeSectorRule (encode i))
    (hb : s.busy = false) :
    exec i s = dispatchTransfer .writeSector s.drv (requestOf s) (transferRegs i s (writeStatus (encode i)) true false) :=
  calc exec i s
      = classRule i (accepted i s) := exec_idle hb hi
    _ = writeSectorRule (encode i) (accepted i s) := by rw [rule]
    _ = _ := writeSectorRule_accepted i s

/-! ### What the call leaves, by binding -/

variable {sts : Byte} {drq written : Bool}

/-- What a transfer command on an image drive leaves, started or declined (R80, R81, R100). -/
theorem transferCommon_image {ses : Session}
    (h : exec i s = .next ((transferRegs i s sts drq written).setSession s.drv ses)) :
    TransferCommon s ((transferRegs i s sts drq written).setSession s.drv ses) (encode i) where
  cmd       := rfl
  motorOn   := rfl
  spindown  := rfl
  command   := exec_commandFrame h
  trk       := rfl
  stepdir   := rfl
  irqDone   := rfl
  seekCount := rfl
  other _ h := drive_setSession_other _ ses h
  wp        := by rw [drive_setSession_same]; rfl
  curtrk    := by rw [drive_setSession_same]; rfl
  images    := SameImages.exec h

/-- What a transfer command on an empty drive leaves (R80, R81, R100, R157). -/
theorem transferCommon_empty {n : Nat} (h : exec i s = .next { transferRegs i s sts drq written with nfCount := n }) :
    TransferCommon s { transferRegs i s sts drq written with nfCount := n } (encode i) where
  cmd       := rfl
  motorOn   := rfl
  spindown  := rfl
  command   := exec_commandFrame h
  trk       := rfl
  stepdir   := rfl
  irqDone   := rfl
  seekCount := rfl
  other _ _ := rfl
  wp        := rfl
  curtrk    := rfl
  images    := SameImages.exec h

/-- A command that is a dispatch call starts its transfer, or declines it, in every binding of the selected drive: `started`
is the session once the guards hold, and `after` follows from the three registers (R153 to R157, R172 to R175). -/
theorem startsTransfer_of_dispatch {started : Session → Session} {after : State → Prop}
    (call : exec i s = dispatchTransfer k s.drv (requestOf s) (transferRegs i s sts drq written))
    (begins : BeginsAs k s started)
    (registers : ∀ t : State, t.sts = sts → t.irqDrq = drq → t.written = written → after t) :
    StartsTransfer i (encode i) s k.hasSector started after := by
  refine ⟨fun ses himage => ?image, fun hempty => ?empty, fun halt => ?alt⟩
  case image =>
    have taken := call.trans (dispatchTransfer_image himage)
    refine ⟨_, taken, transferCommon_image taken, registers _ rfl rfl rfl, rfl, fun pass => ?_, fun fail => ?_⟩
    · rw [drive_setSession_same, transferRegs_drive, begins.begun pass]
    · rw [drive_setSession_same, transferRegs_drive, beginTransfer_declined fail]
  case empty =>
    have taken := call.trans (dispatchTransfer_empty hempty)
    exact ⟨_, taken, transferCommon_empty taken, registers _ rfl rfl rfl, rfl, rfl⟩
  case alt => exact call.trans (dispatchTransfer_alt halt)

/-- A command that is a dispatch call and no more: the status is `PAT_TRANSFER` (R100, R101, R104, R105). -/
theorem startsTransfer_unarmed {started : Session → Session} (hi : ∀ flags, i ≠ .forceInt flags)
    (rule : classRule i = startTransfer k) (hb : s.busy = false) (begins : BeginsAs k s started) :
    StartsTransfer i (encode i) s k.hasSector started (fun t =>
      t.sts = bit stMotor ||| bit stBusy ∧ t.irqDrq = s.irqDrq ∧ t.written = s.written) :=
  startsTransfer_of_dispatch (exec_transfer hi rule hb) begins fun _ hsts hdrq hwritten => ⟨hsts, hdrq, hwritten⟩

/-- WRITE_SECTOR with nibble `n`: the status names the fall-through by whether `n` is `WS_QUIRK_NIBBLE` (R102, R103). -/
theorem startsTransfer_writeSector {n : BitVec 4} {started : Session → Session} (hi : ∀ flags, i ≠ .forceInt flags)
    (rule : classRule i = writeSectorRule (encode i)) (nibble : opOf (encode i) = n) (hb : s.busy = false)
    (begins : BeginsAs .writeSector s started) :
    StartsTransfer i (encode i) s true started (fun t =>
      (wsQuirkNibble = n → t.sts = bit stMotor ||| bit stBusy) ∧
      (wsQuirkNibble ≠ n → t.sts = bit stMotor ||| bit stBusy ||| bit stDrq) ∧
      t.irqDrq = true ∧ t.written = false) := by
  refine startsTransfer_of_dispatch (exec_writeSector hi rule hb) begins fun t hsts hdrq hwritten =>
    ⟨fun hq => ?falls, fun hq => ?armed, hdrq, hwritten⟩
  case falls => exact hsts.trans (if_pos (nibble.trans hq.symm))
  case armed => exact hsts.trans (if_neg fun h => hq (h.symm.trans nibble))

end

/-! ### The five statements -/

/-- The class of a byte written as class and flags (R60). -/
theorem opOf_append (op flags : BitVec 4) : opOf (op ++ flags) = op := BitVec.extractLsb'_append_eq_left

/-- `WS_QUIRK_NIBBLE` is open between two values (R103, D15). -/
theorem wsQuirkNibble_cases : wsQuirkNibble = 0xA#4 ∨ wsQuirkNibble = 0xB#4 := by
  unfold wsQuirkNibble
  split
  · exact .inr rfl
  · exact .inl rfl

/-- Settles O13: READ_SECTOR is the read call with the latched operands. -/
theorem readSectorResult : Obligations.ReadSectorResult := fun low _ hb =>
  startsTransfer_unarmed (i := .readSector low) nofun rfl hb fun _ pass => if_pos pass

/-- Settles O14: WRITE_SECTOR with nibble 0xA is the write call with the data request armed. -/
theorem writeSectorResultA : Obligations.WriteSectorResultA := fun flags _ hb =>
  startsTransfer_writeSector nofun rfl (opOf_append 0xA#4 flags) hb fun _ pass => if_pos pass

/-- Settles O15: nibble 0xB is the same write call, and `WS_QUIRK_NIBBLE` is one of the two nibbles. -/
theorem writeSectorResultB : Obligations.WriteSectorResultB :=
  ⟨wsQuirkNibble_cases, fun flags _ hb =>
    startsTransfer_writeSector nofun rfl (opOf_append 0xB#4 flags) hb fun _ pass => if_pos pass⟩

/-- Settles O16: READ_ADDRESS is the address call, which has no sector operand. -/
theorem readAddressResult : Obligations.ReadAddressResult := fun flags _ hb =>
  startsTransfer_unarmed (i := .readAddress flags) nofun rfl hb fun _ pass => if_pos pass

/-- Settles O17: WRITE_TRACK is the format call, which starts at sector 0 whatever `sec` holds. -/
theorem writeTrackResult : Obligations.WriteTrackResult := fun flags _ hb =>
  startsTransfer_unarmed (i := .writeTrack flags) nofun rfl hb fun _ pass => if_pos pass

end Sys2Proof.Machine

/-!
PROOFS of the statements about Force Interrupt and the unrecognised command (42_force_interrupt_and_invalid.md): the one is
accepted in either mode and stops every machine (R120), the other is an operation that ends in error at once (R122).
-/

namespace Sys2Proof.Machine

/-! ### What Force Interrupt leaves (R120) -/

/-- A stopped binding is of the kind it was, and an image's session loses its operation only (R159, R185). -/
theorem Binding.stop_kinds {b stopped : Binding} (h : stopped = b.stop) :
    (∀ ses, b = .image ses → stopped = .image { ses with st := .idle }) ∧
    (b = .empty → stopped = .empty) ∧ (b = .alt → stopped = .alt) := by
  subst h
  refine ⟨fun ses image => ?_, fun empty => ?_, fun alt => ?_⟩
  · rw [image]; rfl
  · rw [empty]; rfl
  · rw [alt]; rfl

/-- Force Interrupt stops the machine of either drive, and does no more to it (R120, R159). -/
@[simp] theorem forceIntRule_drive (s : State) (d : DriveIx) :
    (forceIntRule s).drive d = { s.drive d with bound := (s.drive d).bound.stop } := abortAll_drive s d

/-- While busy Force Interrupt clears BUSY and keeps every other bit of the status (R120). -/
theorem forceStatus_busy_bits {s : State} (hb : s.busy = true) :
    (forceStatus s).getLsbD stBusy = false ∧ ∀ n, n ≠ stBusy → (forceStatus s).getLsbD n = s.sts.getLsbD n := by
  rw [forceStatus_busy ((busy_eq s).symm.trans hb)]
  refine ⟨by simp, fun n other => ?_⟩
  rw [getLsbD_clearBit, decide_eq_true other, Bool.and_true]

/-- Settles O18: Force Interrupt is its rule in either mode; the status is told by the mode before, the drives by their stopped
bindings, and the rest by the command's frame. -/
theorem forceInterruptResult : Obligations.ForceInterruptResult := by
  intro flags s
  have taken := exec_forceInt flags s
  refine ⟨_, taken, rfl, fun hb => ?busy, fun hb => ?idle, rfl, rfl, rfl, rfl, fun d => ?drives,
    exec_commandFrame taken, rfl, rfl, rfl, rfl, rfl, SameImages.exec taken⟩
  case busy => exact forceStatus_busy_bits hb
  case idle => exact forceStatus_idle ((busy_eq s).symm.trans hb)
  case drives =>
    have stopped := forceIntRule_drive { s with cmd := encode (.forceInt flags) } d
    exact ⟨by rw [stopped]; rfl, Binding.stop_kinds (congrArg Drive.bound stopped)⟩

/-! ### What the unrecognised command leaves (R122) -/

/-- INVALID while idle: the spin-up of its acceptance, then the end by `badCmd` (R80, R122). -/
theorem exec_invalid_idle (flags : BitVec 4) {s : State} (hb : s.busy = false) :
    exec (.invalid flags) s = .next (complete .badCmd patNotFound spinDownNow (accepted (.invalid flags) s)) :=
  exec_idle hb nofun

/-- Settles O19: while busy INVALID is rejected as any command is; while idle its end undoes the spin-up, and the error status
has no MOTOR to clear. -/
theorem invalidResult : Obligations.InvalidResult := by
  intro flags s
  refine ⟨fun hb => ?busy, fun hb => ?idle⟩
  case busy =>
    rw [exec_eq_accept]
    exact acceptCommand_busy hb (opOf_ne_forceInt nofun)
  case idle =>
    have taken := exec_invalid_idle flags hb
    exact ⟨_, taken, rfl, clearMotor_patNotFound, rfl, rfl, rfl, exec_commandFrame taken, rfl, rfl, rfl, rfl, rfl, rfl,
      fun _ => rfl, SameImages.exec taken⟩

end Sys2Proof.Machine

/-!
PROOFS of the statements about host access to the register file (43_register_access.md): the reads and writes of `CHIP(1)`,
`CHIP(2)` and `CHIP(3)` (R132 to R137), and the write of CONTROL (R139) with its soft reset (R241).
-/

namespace Sys2Proof.Machine

/-! ### The write of CONTROL (R139, R241) -/

/-- With the reset trigger a write of CONTROL is the latch, then the soft reset (R139). -/
theorem writeControl_of_reset {v : Byte} (h : resetOf profile v = true) (s : State) :
    writeControl v s = softReset (latchControl v s) := by
  simp [writeControl, h]

/-- The soft reset stops the machine of either drive, and does no more to it (R241, R159). -/
@[simp] theorem softReset_drive (s : State) (d : DriveIx) :
    (softReset s).drive d = { s.drive d with bound := (s.drive d).bound.stop } := abortAll_drive s d

/-- Latching the control byte reaches no drive (R139). -/
@[simp] theorem latchControl_drive (v : Byte) (s : State) (d : DriveIx) : (latchControl v s).drive d = s.drive d := rfl

/-- Settles O25: of either kind of byte the write begins with the latch, which is all of it without the trigger; the reset keeps
what was latched and stops the bindings. -/
theorem controlWriteResult : Obligations.ControlWriteResult := by
  intro s v
  refine ⟨writeControl v s, rfl, ?_⟩
  cases hr : resetOf profile v with
  | false =>
    rw [writeControl_of_no_reset hr]
    exact ⟨rfl, rfl, rfl, rfl, fun _ => rfl, nofun⟩
  | true =>
    rw [writeControl_of_reset hr]
    refine ⟨rfl, rfl, rfl, rfl, nofun, fun _ => ?_⟩
    refine ⟨rfl, rfl, rfl, rfl, rfl, rfl, rfl, rfl, rfl, rfl, rfl, rfl, rfl, fun d => ?_⟩
    have stopped : (softReset (latchControl v s)).drive d = { s.drive d with bound := (s.drive d).bound.stop } := by
      rw [softReset_drive, latchControl_drive]
    exact ⟨by rw [stopped], by rw [stopped], Binding.stop_kinds (congrArg Drive.bound stopped)⟩

/-! ### The track and sector registers (R132 to R135) -/

/-- Settles O21: each of the two reads only returns its register. -/
theorem trackAndSectorReads : Obligations.TrackAndSectorReads := fun _ => ⟨rfl, rfl⟩

/-- Settles O23: each of the two writes is one update of its register. -/
theorem trackAndSectorWrites : Obligations.TrackAndSectorWrites := fun _ _ => ⟨rfl, rfl⟩

/-! ### The data register (R136, R137) -/

/-- The acknowledgement of a data request clears DRQ and keeps every other bit of the status (R136, R137). -/
theorem ackDrq_sts_bits (s : State) :
    (ackDrq s).sts.getLsbD stDrq = false ∧ ∀ n, n ≠ stDrq → (ackDrq s).sts.getLsbD n = s.sts.getLsbD n := by
  rw [ackDrq_sts]
  refine ⟨by simp, fun n other => ?_⟩
  rw [getLsbD_clearBit, decide_eq_true other, Bool.and_true]

/-- Settles O22: the read of `dat` returns it and acknowledges the data request. -/
theorem dataReadAcknowledges : Obligations.DataReadAcknowledges := by
  intro s
  obtain ⟨cleared, kept⟩ := ackDrq_sts_bits (returnByte s.dat s)
  exact ⟨ackDrq (returnByte s.dat s), rfl, rfl, rfl, cleared, kept, rfl⟩

/-- Settles O24: the write of `dat` acknowledges the data request, then latches the byte and marks it available. -/
theorem dataWriteArms : Obligations.DataWriteArms := by
  intro s v
  obtain ⟨cleared, kept⟩ := ackDrq_sts_bits s
  exact ⟨{ ackDrq s with dat := v, written := true }, rfl, rfl, rfl, rfl, cleared, kept, rfl⟩

end Sys2Proof.Machine

/-!
PROOFS of the statements about the dispatch layer's Tick (44_drive_dispatch.md, 60_exceptions.md): the order of its parts (R158,
R230) and the countdown of a declined operation (R157, R202).
-/

namespace Sys2Proof.Machine

/-! ### The order of a Tick (R158, R230) -/

/-- A Tick whose two polls answer is the two countdowns and the motor's step after them (R158, R230). -/
theorem tick_of_polls {s u v : State} (h0 : backendPoll .d0 s = .next u) (h1 : backendPoll .d1 u = .next v) :
    tick s = .next (motorStep (seekStep (nfStep v))) := by
  rw [tick, dispatchPoll, h0, andThen_next, h1, andThen_next, andThen_next]

/-- Settles O59: the Tick's polls are of drive 0, then of drive 1, and neither looks at which drive is selected. -/
theorem tickPollsBothDrives : Obligations.TickPollsBothDrives := fun _ _ _ => tick_of_polls

/-! ### The dispatch countdown (R157, R158, R202) -/

/-- The not-found countdown before its last step (R158). -/
theorem nfStep_counting {s : State} (h : 1 < s.nfCount) : nfStep s = { s with nfCount := s.nfCount - 1 } := by
  rw [nfStep, if_pos (by omega), if_neg (by omega)]

/-- The last step of the not-found countdown (R157, R158). -/
theorem nfStep_last {s : State} (h : s.nfCount = 1) : nfStep s = cbNotFound { s with nfCount := 0 } := by
  simp [nfStep, h]

/-- The not-found countdown falls by one, whether it ends or not (R158). -/
@[simp] theorem nfStep_nfCount (s : State) : (nfStep s).nfCount = s.nfCount - 1 := by
  unfold nfStep
  split_ifs with hpos hlast
  · exact hlast.symm
  · rfl
  · omega

@[simp] theorem nfStep_seekCount (s : State) : (nfStep s).seekCount = s.seekCount := by unfold nfStep; split_ifs <;> rfl
@[simp] theorem nfStep_dat (s : State) : (nfStep s).dat = s.dat := by unfold nfStep; split_ifs <;> rfl
@[simp] theorem nfStep_irqDrq (s : State) : (nfStep s).irqDrq = s.irqDrq := by unfold nfStep; split_ifs <;> rfl

/-- A seek countdown that does not run takes no step (R158). -/
theorem seekStep_spent {s : State} (h : s.seekCount = 0) : seekStep s = s := by simp [seekStep, h]

@[simp] theorem motorStep_nfCount (s : State) : (motorStep s).nfCount = s.nfCount := by
  unfold motorStep; split_ifs <;> rfl
@[simp] theorem motorStep_dat (s : State) : (motorStep s).dat = s.dat := by unfold motorStep; split_ifs <;> rfl
@[simp] theorem motorStep_irqDrq (s : State) : (motorStep s).irqDrq = s.irqDrq := by unfold motorStep; split_ifs <;> rfl

/-- A motor timer that does not run takes no step (R223). -/
theorem motorStep_spent {s : State} (h : s.spindown = 0) : motorStep s = s := by simp [motorStep, h]

/-- The motor's step on the Tick that ends in not-found: the motor has just been stopped, its timer with it (R202, R222). -/
theorem motorStep_cbNotFound (s : State) : motorStep (cbNotFound s) = cbNotFound s :=
  motorStep_spent (cbNotFound_spindown s)

/-- Settles O37: with nothing else in flight the Tick is the not-found countdown's step, then the motor's, which keeps BUSY; on
the last step the countdown's is `not_found`, which has stopped the motor already. -/
theorem dispatchCountdownEnds : Obligations.DispatchCountdownEnds := by
  intro s h0 h1 hseek _
  obtain ⟨x, y, ht, -, -⟩ := tick_idle h0 h1
  have spent : (nfStep ((s.setDrive .d0 x).setDrive .d1 y)).seekCount = 0 := (nfStep_seekCount _).trans hseek
  rw [seekStep_spent spent] at ht
  refine ⟨_, ht, by simp, by simp, by simp, fun hmore => ?before, fun hone => ?last⟩
  case before =>
    rw [motorStep_irqDone, ← busy_eq, busy_motorStep, nfStep_counting, ← busy_eq]
    · exact ⟨rfl, rfl⟩
    · exact hmore
  case last =>
    rw [nfStep_last, motorStep_cbNotFound]
    · exact ⟨clearMotor_patNotFound, rfl, rfl, rfl⟩
    · exact hone

end Sys2Proof.Machine

/-!
PROOFS of the statements about the sector transfer (45_sector_transfer.md): the divider (R177, R178) and abort (R185), the
countdown of a failed request (R173, R179), the bytes of a read (R180), and the divided ticks of a write, a Read Address and a
format (R181 to R184, R186).
-/

namespace Sys2Proof.Machine

/-! ### The transition table, forward (R177, R190) -/

/-- A read inside the image answers its byte (R48). -/
theorem imgRead_inside {ses : Session} {off : Nat} (h : off < ses.size) : imgRead ses off = some (ses.img.read off) := if_pos h

/-- A fill inside the image goes through (R49, R184). -/
theorem imgFill_inside {ses : Session} {off n : Nat} (b : Byte) (h : off + n ≤ ses.size) :
    imgFill ses off n b = some { ses with img := ses.img.fill off n b } := if_pos h

/-- A pull between two sessions put into a drive is a pull before the second (R206). -/
theorem setSession_pulled (s : State) (d : DriveIx) (a b : Session) :
    ({ s.setSession d a with written := false } : State).setSession d b =
      ({ s with written := false } : State).setSession d b := by cases d <;> rfl

/-- The same with a new request. -/
theorem setSession_pulled_raiseDrq (s : State) (d : DriveIx) (a b : Session) :
    (raiseDrq { s.setSession d a with written := false }).setSession d b =
      (raiseDrq { s with written := false }).setSession d b := by cases d <;> rfl

section
variable {d : DriveIx} {ses : Session} {s t : State}

/-- The step of each running state (R179 to R184). -/
theorem dividedTick_notFound (h : ses.st = .notFound) :
    dividedTick d { ses with div := 0 } s = notFoundTick d { ses with div := 0 } s := by
  simp only [dividedTick, h]
theorem dividedTick_read (h : ses.st = .read) :
    dividedTick d { ses with div := 0 } s = readTick d { ses with div := 0 } s := by
  simp only [dividedTick, h]
theorem dividedTick_write (h : ses.st = .write) :
    dividedTick d { ses with div := 0 } s = writeTick d { ses with div := 0 } s := by
  simp only [dividedTick, h]
theorem dividedTick_addr (h : ses.st = .addr) :
    dividedTick d { ses with div := 0 } s = addrTick d { ses with div := 0 } s := by
  simp only [dividedTick, h]
theorem dividedTick_format (h : ses.st = .format) :
    dividedTick d { ses with div := 0 } s = formatTick d { ses with div := 0 } s := by
  simp only [dividedTick, h]

/-- On the divider's wrap the step of the session's state goes the way of the transition table that the session is on (R178 to
R184, R190). -/
theorem PollOutcome.dividedTick_eq (h : PollOutcome d ses s t) (hd : ses.div + 1 = byteDivider) :
    dividedTick d { ses with div := 0 } (s.setSession d { ses with div := 0 }) = .next t := by
  have reads := imgRead_inside (ses := { ses with div := 0 }) (off := ses.pos)
  have stores (n : Nat) := imgWrite_inside (ses := { ses with div := 0, cnt := n }) (off := ses.pos) s.dat
  have fills := imgFill_inside (ses := { ses with div := 0 }) (off := ses.pos) (n := ses.geo.secsize) filler
  cases h
  case throttled hlt => omega
  case idle hst => simp [dividedTick, hst]
  case notFoundCounts hst hc | notFoundEnds hst hc =>
    rw [dividedTick_notFound hst]
    simp [notFoundTick, hc]
  case readByte hst hp hc | readLast hst hp hc =>
    rw [dividedTick_read hst]
    simp [readTick, reads hp, hc]
  case writeProtected hst hw =>
    rw [dividedTick_write hst]
    simp [writeTick, hw]
  case writeUnderrun hst hw hwr =>
    rw [dividedTick_write hst]
    simp [writeTick, hw, cbPull, hwr]
  case writeByte hst hw hwr hp hc =>
    have more : ses.cnt ≠ 1 := by omega
    rw [dividedTick_write hst, ← setSession_pulled_raiseDrq s d { ses with div := 0 }]
    simp [writeTick, hw, cbPull, hwr, stores _ hp, hc, more]
  case writeLast hst hw hwr hp hc =>
    rw [dividedTick_write hst, ← setSession_pulled s d { ses with div := 0 }]
    simp [writeTick, hw, cbPull, hwr, stores _ hp, hc]
  case writeSpent hst hw hwr hp hc =>
    rw [dividedTick_write hst, ← setSession_pulled_raiseDrq s d { ses with div := 0 }]
    simp [writeTick, hw, cbPull, hwr, stores _ hp, hc]
  case addrByte hst h6 =>
    have byte : addressByte { ses with div := 0 } = addressByte ses := rfl
    rw [dividedTick_addr hst]
    simp [addrTick, h6, byte]
  case addrEnds hst h6 =>
    rw [dividedTick_addr hst]
    simp [addrTick, h6]
  case addrPast hst h6 =>
    rw [dividedTick_addr hst]
    simp [addrTick, Nat.not_lt.mpr h6.le, h6.ne']
  case formatProtected hst hw =>
    rw [dividedTick_format hst]
    simp [formatTick, hw]
  case formatSector hst hw hp hc | formatLast hst hw hp hc =>
    rw [dividedTick_format hst]
    simp [formatTick, hw, fills hp, hc]

/-- So does the poll on which the divider wraps (R177). -/
theorem PollOutcome.backendPoll_eq (h : PollOutcome d ses s t) (hb : (s.drive d).bound = .image ses)
    (hd : ses.div + 1 = byteDivider) : backendPoll d s = .next t :=
  (backendPoll_wrap hb hd).trans (h.dividedTick_eq hd)

/-- So do the polls up to and with the divider's next wrap, from wherever it stands (R177). -/
theorem PollOutcome.polls_eq (h : PollOutcome d { ses with div := byteDivider - 1 } s t)
    (hb : (s.drive d).bound = .image ses) (hd : ses.div < byteDivider) : polls d (byteDivider - ses.div) s = .next t :=
  (polls_to_wrap hb hd).trans (h.dividedTick_eq rfl)

/-! ### What a poll leaves in the drive (R26, R48) -/

/-- The binding of a drive that a session was put into (R26). -/
theorem bound_setSession (s : State) (d : DriveIx) (ses : Session) : ((s.setSession d ses).drive d).bound = .image ses := by
  rw [drive_setSession_same]

variable {ses' : Session}

/-- After polls of a drive the images read as if only the session they left had been put into that drive (R158). -/
theorem PollFrame.imageByte_eq (h : PollFrame d s t) (hb' : (t.drive d).bound = .image ses') (j : DriveIx) (a : Nat) :
    imageByte t j a = imageByte (s.setSession d ses') j a := by
  refine imageByte_congr ?_ a
  by_cases hj : j = d
  · subst hj; rw [hb', bound_setSession]
  · rw [h.other j hj, drive_setSession_other _ _ hj]

/-- Polls that leave a session with the image there was keep every byte (R48). -/
theorem PollFrame.sameImages (h : PollFrame d s t) (hb : (s.drive d).bound = .image ses)
    (hb' : (t.drive d).bound = .image ses') (hi : ses'.img = ses.img) (hg : ses'.geo = ses.geo) : SameImages s t :=
  fun j a => (h.imageByte_eq hb' j a).trans (SameImages.of_session hb hi hg j a)

end

/-! ### The divider and abort (R177, R178, R185) -/

/-- Settles O27: a swallowed poll, and a poll on the wrap of an idle machine, put the session back with another divider. -/
theorem dividerThrottles : Obligations.DividerThrottles := by
  intro d s ses hb
  have kept : ∀ x : Session, ((s.setSession d x).drive d).bound = .image x ∧
      s.setSession d x = s.setDrive d ((s.setSession d x).drive d) ∧
      ((s.setSession d x).drive d).wp = (s.drive d).wp ∧ ((s.setSession d x).drive d).curtrk = (s.drive d).curtrk :=
    fun x => ⟨bound_setSession s d x, setSession_eq_setDrive s d x, by simp, by simp⟩
  exact ⟨fun hlt => ⟨_, backendPoll_throttled hb hlt, kept _⟩,
    fun hd hst => ⟨_, (PollOutcome.idle hst).backendPoll_eq hb hd, kept _⟩⟩

/-- A binding with nothing in flight has nothing to stop (R162, R185). -/
theorem bound_stop_of_still {s : State} {d : DriveIx} (h : inFlight s d = false) :
    (s.drive d).bound.stop = (s.drive d).bound := by
  unfold inFlight at h
  cases hb : (s.drive d).bound with
  | empty => rfl
  | alt => rfl
  | image ses =>
    have hst : ses.st = .idle := by simpa [hb] using h
    rw [Binding.stop_image, Session.stop, ← hst]

/-- Settles O33: abort stops the binding of the drive, which is already stopped where nothing is in flight. -/
theorem abortOnlyIdles : Obligations.AbortOnlyIdles := by
  intro d s
  refine ⟨fun ses hb => ?image, fun still => ?still⟩
  case image => rw [abort, hb]; rfl
  case still => rw [abort, bound_stop_of_still still, setDrive_drive_self]

/-! ### The countdown of a failed request (R173, R179) -/

/-- A last poll after `n` polls. -/
theorem polls_succ_of_next {d : DriveIx} {n : Nat} {s u : State} (h : polls d n s = .next u) :
    polls d (n + 1) s = backendPoll d u := by
  rw [polls_add, h, andThen_next, polls]
  cases backendPoll d u <;> rfl

/-- The session of a failed request after `m` polls that do not end it: the divider has run and wrapped (R177, R179). -/
def Session.countedDown (ses : Session) (m : Nat) : Session :=
  { ses with div := (ses.div + m) % byteDivider, cnt := ses.cnt - (ses.div + m) / byteDivider }

/-- A poll that the divider swallows moves the divider. -/
theorem Session.countedDown_succ_throttled {ses : Session} {m : Nat} (h : (ses.countedDown m).div + 1 < byteDivider) :
    ses.countedDown (m + 1) = { ses.countedDown m with div := (ses.countedDown m).div + 1 } := by
  simp only [countedDown, byteDivider] at h ⊢
  congr 1 <;> omega

/-- The poll on which the divider wraps puts it back and takes one from the counter. -/
theorem Session.countedDown_succ_wrap {ses : Session} {m : Nat} (h : (ses.countedDown m).div + 1 = byteDivider) :
    ses.countedDown (m + 1) = { ses.countedDown m with div := 0, cnt := (ses.countedDown m).cnt - 1 } := by
  simp only [countedDown, byteDivider] at h ⊢
  congr 1 <;> omega

section
variable {d : DriveIx} {s : State} {ses : Session} (hb : (s.drive d).bound = .image ses) (hst : ses.st = .notFound)
  (hd : ses.div < byteDivider)
include hb hst hd

/-- Until the countdown ends its polls move the divider and the counter of the session only (R177, R179). -/
theorem polls_notFound_counts {m : Nat} (hm : m < byteDivider * ses.cnt - ses.div) :
    polls d m s = .next (s.setSession d (ses.countedDown m)) := by
  induction m with
  | zero =>
    have start : ses.countedDown 0 = ses := by
      simp [Session.countedDown, Nat.mod_eq_of_lt hd, Nat.div_eq_of_lt hd]
    rw [start, setSession_self hb]
    rfl
  | succ m ih =>
    have held := bound_setSession s d (ses.countedDown m)
    rw [polls_succ_of_next (ih (by omega))]
    by_cases hlt : (ses.countedDown m).div + 1 < byteDivider
    · rw [backendPoll_throttled held hlt, setSession_setSession, Session.countedDown_succ_throttled hlt]
    · have below : (ses.countedDown m).div < byteDivider := Nat.mod_lt _ (by decide)
      have wrap : (ses.countedDown m).div + 1 = byteDivider := by omega
      have more : (ses.countedDown m).cnt - 1 ≠ 0 := by
        simp only [Session.countedDown, byteDivider] at wrap hm ⊢
        omega
      have outcome := PollOutcome.notFoundCounts (s := s.setSession d (ses.countedDown m)) (d := d)
        (ses := ses.countedDown m) hst more
      rw [outcome.backendPoll_eq held wrap, setSession_setSession, Session.countedDown_succ_wrap wrap]

/-- The countdown ends in the not-found callback, on the poll that the counter and the divider's phase give (R179, R202). -/
theorem polls_notFound_ends (hc : 1 ≤ ses.cnt) :
    polls d (byteDivider * ses.cnt - ses.div) s =
      .next (cbNotFound (s.setSession d { ses with div := 0, cnt := 0, st := .idle })) := by
  obtain ⟨m, hm⟩ : ∃ m, byteDivider * ses.cnt - ses.div = m + 1 :=
    Nat.exists_eq_succ_of_ne_zero (by unfold byteDivider at hd ⊢; omega)
  have last : ses.countedDown m = { ses with div := byteDivider - 1, cnt := 1 } := by
    simp only [Session.countedDown, byteDivider] at hm hd ⊢
    congr 1 <;> omega
  have before := polls_notFound_counts hb hst hd (m := m) (by omega)
  have outcome := PollOutcome.notFoundEnds (d := d) (s := s.setSession d (ses.countedDown m)) (ses := ses.countedDown m) hst
    (by simp [last])
  rw [hm, polls_succ_of_next before, outcome.backendPoll_eq (bound_setSession _ _ _) (by rw [last]; rfl), last,
    setSession_setSession]
  rfl

end

/-- Settles O28: the polls before the last are the countdown, the last is the not-found callback, whose error status has no
MOTOR to clear. -/
theorem notFoundCountdownLength : Obligations.NotFoundCountdownLength := by
  intro d s ses hb hst hc hd
  have ends := polls_notFound_ends hb hst hd hc
  have left := bound_setSession s d { ses with div := 0, cnt := 0, st := .idle }
  have frame := polls_frame ends
  exact ⟨fun m hm => polls_notFound_counts hb hst hd hm, _, ends, left, clearMotor_patNotFound, rfl, rfl, rfl, rfl, rfl, rfl,
    frame, frame.sameImages hb left rfl rfl⟩

/-! ### The bytes of a sector read (R180) -/

/-- Setting a flag twice is setting it once (R6). -/
@[simp] theorem setBit_setBit (v : Byte) (n : Nat) : setBit (setBit v n) n = setBit v n := by
  simp [setBit, BitVec.or_assoc]

/-- The session after `k` bytes of a sector read, with operation state `st` (R180). -/
def Session.advanced (ses : Session) (k : Nat) (st : OpState) : Session :=
  { ses with div := 0, pos := ses.pos + k, cnt := ses.cnt - k, st := st }

/-- The state after byte `k`, counted from 1, of a sector read has been delivered, with operation state `st` (R180, R200). -/
def delivered (d : DriveIx) (ses : Session) (s : State) (k : Nat) (st : OpState) : State :=
  cbDataReady (ses.img.read (ses.pos + (k - 1))) (s.setSession d (ses.advanced k st))

/-- The bytes after the first, delivered from where the first has left the machine, are those bytes of the whole read. -/
theorem delivered_delivered (d : DriveIx) (ses : Session) (s : State) {k : Nat} (hk : 1 ≤ k) (st : OpState) :
    delivered d (ses.advanced 1 .read) (delivered d ses s 1 .read) k st = delivered d ses s (k + 1) st := by
  have place : ses.pos + 1 + (k - 1) = ses.pos + k := by omega
  have session : (ses.advanced 1 .read).advanced k st = ses.advanced (k + 1) st := by
    simp only [Session.advanced]
    congr 1 <;> omega
  unfold delivered
  rw [session]
  simp only [Session.advanced, place, Nat.add_sub_cancel]
  cases d <;> simp [cbDataReady, State.setSession, State.setDrive, State.drive]

section
variable {d : DriveIx} {s : State} {ses : Session}

/-- The first byte of a sector read, with more to come (R180). -/
theorem polls_read_byte (hb : (s.drive d).bound = .image ses) (hst : ses.st = .read) (hd : ses.div < byteDivider)
    (hp : ses.pos < ses.size) (hc : 1 < ses.cnt) :
    polls d (byteDivider - ses.div) s = .next (delivered d ses s 1 .read) := by
  have outcome := PollOutcome.readByte (d := d) (s := s) (ses := { ses with div := byteDivider - 1 }) hst hp
    (Nat.sub_ne_zero_of_lt hc)
  rw [outcome.polls_eq hb hd, delivered, Session.advanced, ← hst]
  rfl

/-- The last byte of a sector read, and the end of the operation with it (R180, R215). -/
theorem polls_read_last (hb : (s.drive d).bound = .image ses) (hst : ses.st = .read) (hd : ses.div < byteDivider)
    (hp : ses.pos < ses.size) (hc : ses.cnt = 1) :
    polls d (byteDivider - ses.div) s = .next (cbFinished (delivered d ses s 1 .idle)) :=
  (PollOutcome.readLast (ses := { ses with div := byteDivider - 1 }) hst hp (Nat.sub_eq_zero_of_le hc.le)).polls_eq hb hd

/-- A sector read delivers byte `k` with the divider's `k`-th wrap, and ends with the last byte (R180, R215). -/
theorem polls_read_delivers {k : Nat} (hk : 1 ≤ k) (hle : k ≤ ses.cnt) (hb : (s.drive d).bound = .image ses)
    (hst : ses.st = .read) (hd : ses.div < byteDivider) (hp : ses.pos + ses.cnt ≤ ses.size) :
    (k < ses.cnt → polls d (byteDivider * k - ses.div) s = .next (delivered d ses s k .read)) ∧
    (k = ses.cnt → polls d (byteDivider * k - ses.div) s = .next (cbFinished (delivered d ses s k .idle))) := by
  induction k, hk using Nat.le_induction generalizing s ses with
  | base =>
    rw [Nat.mul_one]
    exact ⟨fun hc => polls_read_byte hb hst hd (by omega) hc, fun hc => polls_read_last hb hst hd (by omega) hc.symm⟩
  | succ k hk ih =>
    have portions : byteDivider * (k + 1) - ses.div = (byteDivider - ses.div) + (byteDivider * k - 0) := by
      unfold byteDivider at hd ⊢; omega
    have wrapped : 0 < byteDivider := by decide
    have rest : (ses.advanced 1 .read).cnt = ses.cnt - 1 := rfl
    have inside : ses.pos + 1 + (ses.cnt - 1) ≤ ses.size := by omega
    obtain ⟨more, last⟩ := ih (s := delivered d ses s 1 .read) (ses := ses.advanced 1 .read) (by omega)
      (bound_setSession _ _ _) rfl wrapped inside
    rw [delivered_delivered d ses s hk] at more last
    rw [portions, polls_add, polls_read_byte hb hst hd (by omega) (by omega)]
    exact ⟨fun hc => more (by omega), fun hc => last (by omega)⟩

end

/-- Settles O29: the polls deliver byte `k` of the image, which no poll of a read stores into; the last one ends as well. -/
theorem readDeliversSectorInOrder : Obligations.ReadDeliversSectorInOrder := by
  intro d s ses hb hst hd hp k hk hle
  obtain ⟨more, last⟩ := polls_read_delivers hk hle hb hst hd hp
  have byte : some (ses.img.read (ses.pos + (k - 1))) = imageByte s d (ses.pos + (k - 1)) := by
    rw [imageByte_image hb, imgRead_inside (by omega)]
  have left (st : OpState) := bound_setSession s d (ses.advanced k st)
  obtain hc | hc := hle.lt_or_eq
  · have ends := more hc
    have frame := polls_frame ends
    exact ⟨_, .read, ends, left .read, byte, rfl, rfl, rfl, frame, frame.sameImages hb (left .read) rfl rfl,
      fun _ => ⟨rfl, rfl, rfl, rfl⟩, fun h => absurd h hc.ne⟩
  · have ends := last hc
    have frame := polls_frame ends
    exact ⟨_, .idle, ends, left .idle, byte, rfl, rfl, rfl, frame, frame.sameImages hb (left .idle) rfl rfl,
      fun h => absurd hc h.ne, fun _ => ⟨rfl, rfl, rfl, rfl⟩⟩

/-! ### The end of a protected write or format (R186) -/

/-- A poll that ends in `write_protect` leaves the error status with the motor off, and changes no byte (R186, R205). -/
theorem backendPoll_writeProtect {d : DriveIx} {s : State} {ses : Session}
    (hb : (s.drive d).bound = .image ses)
    (h : backendPoll d s = .next (cbWriteProtect (s.setSession d { ses with div := 0, st := .idle }))) :
    ∃ t, backendPoll d s = .next t ∧ (t.drive d).bound = .image { ses with div := 0, st := .idle } ∧
      t.sts = bit stWprot ∧ t.motorOn = false ∧ t.spindown = 0 ∧
      t.irqDone = (s.irqDone || irqGate profile .wrProt s.ctl s.cmd) ∧ t.irqDrq = s.irqDrq ∧ t.dat = s.dat ∧
      t.written = s.written ∧ PollFrame d s t ∧ SameImages s t := by
  have left := bound_setSession s d { ses with div := 0, st := .idle }
  have frame := poll_frame h
  exact ⟨_, h, left, clearMotor_patWrProt, rfl, rfl, rfl, rfl, rfl, rfl, frame, frame.sameImages hb left rfl rfl⟩

/-! ### The divided tick of a write (R181, R182) -/

/-- The session after a byte of a sector write, with operation state `st` (R181). -/
def Session.stored (ses : Session) (b : Byte) (st : OpState) : Session :=
  { ses with div := 0, img := ses.img.write ses.pos b, pos := ses.pos + 1, cnt := ses.cnt - 1, st := st }

/-- The counter of that session is spent with the last byte (R181). -/
theorem Session.stored_last {ses : Session} (h : ses.cnt - 1 = 0) (b : Byte) (st : OpState) :
    { ses with div := 0, img := ses.img.write ses.pos b, pos := ses.pos + 1, cnt := 0, st := st } = ses.stored b st := by
  rw [Session.stored, h]

/-- A poll that stores a byte: it reads at its place, and every other byte of both images as before (R49, R181). -/
theorem backendPoll_stored {d : DriveIx} {s t : State} {ses : Session} {b : Byte} {st : OpState}
    (h : backendPoll d s = .next t) (hb : (s.drive d).bound = .image ses)
    (hb' : (t.drive d).bound = .image (ses.stored b st)) (hwf : ses.img.wf = true) (hp : ses.pos < ses.size) :
    PollFrame d s t ∧ imageByte t d ses.pos = some b ∧
      ∀ j a, j ≠ d ∨ a ≠ ses.pos → imageByte t j a = imageByte s j a := by
  have reads := fun j a => ((poll_frame h).imageByte_eq hb' j a).trans
    (imageByte_store (ses' := ses.stored b st) hb rfl rfl hwf hp j a)
  refine ⟨poll_frame h, (reads _ _).trans (if_pos ⟨rfl, rfl⟩), fun j a other => (reads j a).trans (if_neg ?_)⟩
  rintro ⟨rfl, rfl⟩
  simp at other

/-- Settles O30: the protected poll ends in `write_protect`, the underrun moves the divider only, and each way of storing a byte
leaves the same image; a spent counter, which the last two clauses do not speak of, ends too. -/
theorem writeTickCases : Obligations.WriteTickCases := by
  intro d s ses hb hst hd hwf hp
  refine ⟨fun hprot => ?guarded, fun hwp hswp hwr => ?underrun, fun hwp hswp hwr => ?store⟩
  case guarded =>
    exact backendPoll_writeProtect hb ((PollOutcome.writeProtected hst (Bool.or_eq_true_iff.2 hprot)).backendPoll_eq hb hd)
  case underrun => exact (PollOutcome.writeUnderrun hst (Bool.or_eq_false_iff.2 ⟨hwp, hswp⟩) hwr).backendPoll_eq hb hd
  case store =>
    have unprot := Bool.or_eq_false_iff.2 ⟨hwp, hswp⟩
    have last (h : ses.cnt - 1 = 0) := congrArg Binding.image (Session.stored_last h s.dat .idle)
    obtain hc | hc | hc : 1 < ses.cnt ∨ ses.cnt = 1 ∨ ses.cnt = 0 := by omega
    · have taken := (PollOutcome.writeByte hst unprot hwr hp (by omega)).backendPoll_eq hb hd
      have left := bound_setSession (raiseDrq { s with written := false }) d (ses.stored s.dat ses.st)
      obtain ⟨frame, here, elsewhere⟩ := backendPoll_stored taken hb left hwf hp
      exact ⟨_, _, _, taken, left, rfl, rfl, rfl, frame, here, elsewhere,
        fun _ => ⟨hst, rfl, rfl, rfl, rfl⟩, fun h => absurd h hc.ne'⟩
    · have taken := (PollOutcome.writeLast hst unprot hwr hp hc).backendPoll_eq hb hd
      have left := (bound_setSession { s with written := false } d _).trans (last (by omega))
      obtain ⟨frame, here, elsewhere⟩ := backendPoll_stored taken hb left hwf hp
      exact ⟨_, _, _, taken, left, rfl, rfl, rfl, frame, here, elsewhere,
        fun h => absurd hc h.ne', fun _ => ⟨rfl, rfl, rfl, rfl, rfl⟩⟩
    · have taken := (PollOutcome.writeSpent hst unprot hwr hp hc).backendPoll_eq hb hd
      have left := (bound_setSession (raiseDrq { s with written := false }) d _).trans (last (by omega))
      obtain ⟨frame, here, elsewhere⟩ := backendPoll_stored taken hb left hwf hp
      exact ⟨_, _, _, taken, left, rfl, rfl, rfl, frame, here, elsewhere,
        fun h => absurd h (by omega), fun h => absurd h (by omega)⟩

/-! ### The divided tick of a Read Address (R183) -/

/-- The byte of each of the six stages (R183). -/
theorem addressByte_stages (ses : Session) :
    (ses.stage = 0 → addressByte ses = BitVec.ofNat 8 ses.ttrk) ∧
    (ses.stage = 1 → addressByte ses = BitVec.ofNat 8 ses.tside) ∧
    (ses.stage = 2 → addressByte ses = sectorByte ses.asec) ∧ (ses.stage = 3 → addressByte ses = addrRsvd0) ∧
    (ses.stage = 4 → addressByte ses = addrRsvd1) ∧ (ses.stage = 5 → addressByte ses = addrRsvd2) := by
  refine ⟨fun h => ?_, fun h => ?_, fun h => ?_, fun h => ?_, fun h => ?_, fun h => ?_⟩ <;> simp only [addressByte, h]

/-- Settles O31: below stage 6 the poll is a data request with the stage's byte, at stage 6 it is `finished`. -/
theorem addressTickCases : Obligations.AddressTickCases := by
  intro d s ses hb hst hd
  refine ⟨fun h6 => ?byte, fun h6 => ?ends⟩
  case byte =>
    have taken := (PollOutcome.addrByte hst h6).backendPoll_eq hb hd
    have left := bound_setSession s d { ses with div := 0, stage := ses.stage + 1 }
    have frame := poll_frame taken
    obtain ⟨track, side, sector, rsvd0, rsvd1, rsvd2⟩ := addressByte_stages ses
    exact ⟨_, taken, left, fun h => (congrArg BitVec.toNat (track h)).trans (BitVec.toNat_ofNat _ _),
      fun h => (congrArg BitVec.toNat (side h)).trans (BitVec.toNat_ofNat _ _),
      fun h fits => (congrArg BitVec.toNat (sector h)).trans (sectorByte_toNat fits),
      fun h wide => (sector h).trans (sectorByte_wide wide), rsvd0, rsvd1, rsvd2,
      rfl, rfl, rfl, rfl, rfl, rfl, frame, frame.sameImages hb left rfl rfl⟩
  case ends =>
    have taken := (PollOutcome.addrEnds hst h6).backendPoll_eq hb hd
    have left := bound_setSession s d { ses with div := 0, st := .idle, asec := (ses.asec + 1) % ses.geo.spt }
    have frame := poll_frame taken
    exact ⟨_, taken, left, rfl, rfl, rfl, rfl, rfl, rfl, rfl, frame, frame.sameImages hb left rfl rfl⟩

/-! ### The divided tick of a format (R184) -/

/-- The session after a sector of a format, with operation state `st` (R184). -/
def Session.filled (ses : Session) (st : OpState) : Session :=
  { ses with
    div := 0, img := ses.img.fill ses.pos ses.geo.secsize filler, pos := ses.pos + ses.geo.secsize, cnt := ses.cnt - 1,
    st := st }

/-- A poll that fills a sector: the filler reads there, and every other byte of both images as before (R49, R184). -/
theorem backendPoll_filled {d : DriveIx} {s t : State} {ses : Session} {st : OpState} (h : backendPoll d s = .next t)
    (hb : (s.drive d).bound = .image ses) (hb' : (t.drive d).bound = .image (ses.filled st)) (hwf : ses.img.wf = true)
    (hp : ses.pos + ses.geo.secsize ≤ ses.size) :
    PollFrame d s t ∧ (∀ a, ses.pos ≤ a → a < ses.pos + ses.geo.secsize → imageByte t d a = some filler) ∧
      ∀ j a, j ≠ d ∨ a < ses.pos ∨ ses.pos + ses.geo.secsize ≤ a → imageByte t j a = imageByte s j a := by
  have reads := fun j a => ((poll_frame h).imageByte_eq hb' j a).trans
    (imageByte_fill (ses' := ses.filled st) hb rfl rfl hwf hp j a)
  refine ⟨poll_frame h, fun a lo hi => (reads _ _).trans (if_pos ⟨rfl, lo, hi⟩),
    fun j a other => (reads j a).trans (if_neg ?_)⟩
  rintro ⟨rfl, lo, hi⟩
  obtain hj | ha | ha := other
  · exact hj rfl
  · omega
  · omega

/-- Settles O32: the protected poll ends in `write_protect`; any other fills one sector, and the last ends the format. -/
theorem formatTickCases : Obligations.FormatTickCases := by
  intro d s ses hb hst hd hwf hp
  refine ⟨fun hprot => ?guarded, fun hwp hswp => ?sector⟩
  case guarded =>
    exact backendPoll_writeProtect hb ((PollOutcome.formatProtected hst (Bool.or_eq_true_iff.2 hprot)).backendPoll_eq hb hd)
  case sector =>
    have unprot := Bool.or_eq_false_iff.2 ⟨hwp, hswp⟩
    by_cases hc : ses.cnt - 1 = 0
    · have taken := (PollOutcome.formatLast hst unprot hp hc).backendPoll_eq hb hd
      have left := bound_setSession s d (ses.filled .idle)
      obtain ⟨frame, here, elsewhere⟩ := backendPoll_filled taken hb left hwf hp
      exact ⟨_, _, _, taken, left, here, elsewhere, rfl, rfl, rfl, rfl, frame,
        fun h => absurd hc (by omega), fun _ => ⟨rfl, rfl, rfl, rfl⟩⟩
    · have taken := (PollOutcome.formatSector hst unprot hp hc).backendPoll_eq hb hd
      have left := bound_setSession s d (ses.filled ses.st)
      obtain ⟨frame, here, elsewhere⟩ := backendPoll_filled taken hb left hwf hp
      exact ⟨_, _, _, taken, left, here, elsewhere, rfl, rfl, rfl, rfl, frame,
        fun _ => ⟨hst, rfl, rfl, rfl⟩, fun h => absurd h (by omega)⟩

end Sys2Proof.Machine

/-!
PROOFS of the statements about completion and the motor (60_exceptions.md): what a step keeps of the motor's countdown (R220 to
R223), which actions take down the latches `irq_done` and `irq_drq` (R211, R212), and what enters busy (R225).
-/

namespace Sys2Proof.Machine

/-! ### The motor's step (R223) -/

/-- The last step of the motor's timer is the spin-down (R222, R223). -/
theorem motorStep_last {s : State} (h : s.spindown = 1) : motorStep s = spinDownNow s := by
  rw [motorStep, if_pos (by omega), if_pos (by omega)]
  rfl

/-- Settles O39: the timer's three cases; on the last one MOTOR is the bit that is cleared. -/
theorem motorTimerStep : Obligations.MotorTimerStep := by
  intro s
  refine ⟨motorStep_spent, motorStep_counting, fun h => ⟨spinDownNow s, motorStep_last h, rfl, ?cleared, fun n hn => ?kept⟩⟩
  case cleared => simp
  case kept => simp [hn]

/-! ### A running motor has a countdown (R220 to R223) -/

namespace State.MotorTimed

/-- A countdown that has just been restarted runs (R20). -/
theorem of_restarted {s : State} (h : s.spindown = spindownTicks) : s.MotorTimed := by
  intro _
  rw [h]
  decide

/-- A motor that is off, with its flag clear, needs no countdown. -/
theorem of_off {s : State} (hon : s.motorOn = false) (hsts : s.sts.getLsbD stMotor = false) : s.MotorTimed := by
  intro hrun
  rw [hon, hsts] at hrun
  simp at hrun

/-- The spin-down leaves the motor off and its flag clear (R222). -/
theorem spinDownNow (s : State) : (spinDownNow s).MotorTimed := of_off rfl (by simp)

/-- So does the end of an operation with a spin-down, whatever its error pattern (R122, R202 to R205, R216). -/
theorem completeOff (e : Event) (pat : Byte) (s : State) : (complete e pat Machine.spinDownNow s).MotorTimed :=
  of_off rfl (by simp [complete])

section
variable {s t : State} (h : s.MotorTimed)
include h

/-- Only the motor, its flag and the countdown matter. -/
theorem congr (hon : t.motorOn = s.motorOn) (hsts : t.sts.getLsbD stMotor = s.sts.getLsbD stMotor)
    (hsd : t.spindown = s.spindown) : t.MotorTimed := by
  unfold State.MotorTimed at h ⊢
  rwa [hon, hsts, hsd]

/-- Raising the data request leaves the motor's flag (R200, R206). -/
theorem raiseDrq : (raiseDrq s).MotorTimed := h.congr rfl (by simp) rfl

/-- Acknowledging the data request leaves the motor's flag (R136, R137). -/
theorem ackDrq : (ackDrq s).MotorTimed := h.congr rfl (by simp) rfl

/-- Every callback keeps it: the motor's flag stays, its countdown is restarted, or it is off (R200 to R206). -/
theorem runCallback (c : Callback) : (runCallback c s).MotorTimed := by
  cases c with
  | dataReady b => exact h.raiseDrq
  | finished => exact of_restarted rfl
  | notFound | dataCrcError | headerCrcError | writeProtect => exact completeOff _ _ s
  | pull last =>
    rw [runCallback_pull]
    split_ifs
    · exact h
    · exact State.MotorTimed.raiseDrq (s := { s with written := false }) h
    · exact h

/-- A poll keeps it: the transfer goes on, or ends with the countdown restarted or the motor off (R190, R201, R216). -/
theorem after_poll {d : DriveIx} (hp : backendPoll d s = .next t) : t.MotorTimed := by
  obtain ⟨_, rfl⟩ | ⟨ses, _, ho⟩ := backendPoll_cases hp
  · exact h
  · cases ho
    case throttled | idle | notFoundCounts | writeUnderrun | addrPast | formatSector => exact h
    case readByte | addrByte | writeByte => exact h.raiseDrq
    case readLast | writeLast | writeSpent | addrEnds | formatLast => exact of_restarted rfl
    case notFoundEnds | writeProtected | formatProtected => exact completeOff _ _ _

/-- The not-found countdown goes on, or ends with the motor off (R158, R202). -/
theorem after_nfStep : (nfStep s).MotorTimed := by
  obtain ⟨_, e⟩ | ⟨n, _, e⟩ := nfStep_cases s <;> rw [e]
  · exact completeOff _ _ _
  · exact h

/-- The seek countdown goes on, or ends with the motor's countdown restarted (R158, R201). -/
theorem after_seekStep : (seekStep s).MotorTimed := by
  obtain ⟨_, e⟩ | ⟨n, _, e⟩ := seekStep_cases s <;> rw [e]
  · exact of_restarted rfl
  · exact h

/-- The motor's step turns the motor and its flag off as the countdown is spent, and not before (R223). -/
theorem after_motorStep : (motorStep s).MotorTimed := by
  obtain h0 | h1 | hmore : s.spindown = 0 ∨ s.spindown = 1 ∨ 1 < s.spindown := by omega
  · rw [motorStep_spent h0]; exact h
  · rw [motorStep_last h1]; exact spinDownNow s
  · rw [motorStep_counting hmore]; exact fun _ => Nat.sub_pos_of_lt hmore

/-- A Tick keeps it (R230). -/
theorem after_tick (ht : tick s = .next t) : t.MotorTimed :=
  tick_induct ht h (fun _ _ _ hu hv => hu.after_poll hv) (fun _ hu => hu.after_nfStep) (fun _ hu => hu.after_seekStep)
    (fun _ hu => hu.after_motorStep)

/-- A command that is not ignored restarts the countdown, by the spin-up or as Force Interrupt; INVALID turns the motor off
(R81, R120, R122). -/
theorem after_exec {i : Instr} (he : exec i s = .next t) : t.MotorTimed := by
  cases exec_outcome he
  case ignored => exact h
  case positioned | started | declined | writeStarted | writeDeclined | forced => exact of_restarted rfl
  case invalid => exact completeOff _ _ _

/-- A write of the control register leaves the motor alone, or turns it off by the reset (R139, R241). -/
theorem after_writeControl (v : Byte) : (writeControl v s).MotorTimed := by
  cases hr : resetOf profile v with
  | false => rw [writeControl_of_no_reset hr]; exact h
  | true => rw [writeControl_of_reset hr]; exact of_off rfl BitVec.getLsbD_zero

/-- Every action keeps it (R4). -/
theorem after_action {a : Action} (ho : ActionOutcome s a t) : t.MotorTimed := by
  cases ho
  case readSts | readTrk | readSec | readCtl | writeTrk | writeSec | bind | close | wprot => exact h
  case readDat | writeDat => exact h.ackDrq
  case command he => exact h.after_exec he
  case writeCtl v => exact h.after_writeControl v
  case tick ht => exact h.after_tick ht
  case reset => exact of_off rfl BitVec.getLsbD_zero
  case callback c _ => exact h.runCallback c

end
end State.MotorTimed

/-- Settles O57: the invariant does not look at the queue, and every action keeps it. -/
theorem stepKeepsMotorTimed : Obligations.StepKeepsMotorTimed := by
  intro s t h hstep
  obtain ⟨q, -, ho⟩ := step_outcome hstep
  have h' : State.MotorTimed { s with inbox := q } := h
  exact h'.after_action ho

/-! ### The completion and data-request latches (R211, R212) -/

/-- A latch that is up in `s` is up in `t` (R21). -/
structure LatchesKept (s t : State) : Prop where
  done : s.irqDone = true → t.irqDone = true
  drq  : s.irqDrq = true → t.irqDrq = true

namespace LatchesKept

theorem refl (s : State) : LatchesKept s s := ⟨id, id⟩

section
variable {s t : State}

theorem trans {u : State} (h : LatchesKept s t) (k : LatchesKept t u) : LatchesKept s u :=
  ⟨k.done ∘ h.done, k.drq ∘ h.drq⟩

/-- The gated completion interrupt never takes `irq_done` down, whatever the gate answers (R212, R213). -/
theorem of_gated {gate : Bool} (hd : t.irqDone = (s.irqDone || gate)) (hq : s.irqDrq = true → t.irqDrq = true) :
    LatchesKept s t where
  done up := by rw [hd, up, Bool.true_or]
  drq := hq

/-- A poll acknowledges nothing: it raises latches at most (R190). -/
theorem of_poll {d : DriveIx} (hp : backendPoll d s = .next t) : LatchesKept s t := by
  obtain ⟨_, rfl⟩ | ⟨ses, _, ho⟩ := backendPoll_cases hp
  · exact .refl _
  · cases ho
    case throttled | idle | notFoundCounts | writeUnderrun | addrPast | formatSector => exact ⟨id, id⟩
    case readByte | addrByte | writeByte => exact ⟨id, fun _ => rfl⟩
    case readLast | writeSpent => exact of_gated rfl fun _ => rfl
    case notFoundEnds | writeLast | writeProtected | addrEnds | formatProtected | formatLast => exact of_gated rfl id

/-- The not-found countdown goes on, or ends in its callback (R158). -/
theorem of_nfStep (s : State) : LatchesKept s (nfStep s) := by
  obtain ⟨_, e⟩ | ⟨n, _, e⟩ := nfStep_cases s <;> rw [e]
  · exact of_gated rfl id
  · exact ⟨id, id⟩

/-- The seek countdown goes on, or ends in its callback (R158). -/
theorem of_seekStep (s : State) : LatchesKept s (seekStep s) := by
  obtain ⟨_, e⟩ | ⟨n, _, e⟩ := seekStep_cases s <;> rw [e]
  · exact of_gated rfl id
  · exact ⟨id, id⟩

/-- The motor's step reaches no latch (R223). -/
theorem of_motorStep (s : State) : LatchesKept s (motorStep s) :=
  ⟨(motorStep_irqDone s).trans, (motorStep_irqDrq s).trans⟩

/-- A Tick acknowledges nothing (R230). -/
theorem of_tick (ht : tick s = .next t) : LatchesKept s t :=
  tick_induct (P := LatchesKept s) ht (.refl s) (fun _ _ _ hu hv => hu.trans (of_poll hv))
    (fun u hu => hu.trans (of_nfStep u)) (fun u hu => hu.trans (of_seekStep u)) (fun u hu => hu.trans (of_motorStep u))

/-- A command acknowledges nothing: a write raises `irq_drq`, Force Interrupt and INVALID the gated interrupt (R102, R120,
R122). -/
theorem of_exec {i : Instr} (he : exec i s = .next t) : LatchesKept s t := by
  cases exec_outcome he
  case ignored | positioned | started | declined => exact ⟨id, id⟩
  case writeStarted | writeDeclined => exact ⟨id, fun _ => rfl⟩
  case forced | invalid => exact of_gated rfl id

/-- A callback acknowledges nothing (R200 to R206). -/
theorem of_runCallback (c : Callback) (s : State) : LatchesKept s (runCallback c s) := by
  cases c with
  | dataReady b => exact ⟨id, fun _ => rfl⟩
  | finished | notFound | dataCrcError | headerCrcError | writeProtect => exact of_gated rfl id
  | pull last =>
    rw [runCallback_pull]
    split_ifs
    · exact ⟨id, id⟩
    · exact ⟨id, fun _ => rfl⟩
    · exact .refl s

end
end LatchesKept

/-- The action is RESET, or a control write that triggers the soft reset (R240, R241). -/
def Action.Resets (a : Action) : Prop := a = .reset ∨ ∃ v, a = .write .control v ∧ resetOf profile v = true

/-- What an action does to the latches: they stay up, or the host acknowledges one of them, or a reset takes both down (R211,
R212). -/
theorem ActionOutcome.latches {a : Action} {s t : State} (ho : ActionOutcome s a t) :
    LatchesKept s t ∨ (a = .read (.chip 0) ∧ t.irqDrq = s.irqDrq) ∨
    ((a = .read (.chip 3) ∨ ∃ v, a = .write (.chip 3) v) ∧ t.irqDone = s.irqDone) ∨ a.Resets := by
  cases ho
  case readTrk | readSec | readCtl | writeTrk | writeSec | bind | close | wprot => exact .inl ⟨id, id⟩
  case readSts => exact .inr (.inl ⟨rfl, rfl⟩)
  case readDat => exact .inr (.inr (.inl ⟨.inl rfl, rfl⟩))
  case writeDat v => exact .inr (.inr (.inl ⟨.inr ⟨v, rfl⟩, rfl⟩))
  case command he => exact .inl (.of_exec he)
  case writeCtl v =>
    cases hr : resetOf profile v with
    | false => rw [writeControl_of_no_reset hr]; exact .inl ⟨id, id⟩
    | true => exact .inr (.inr (.inr (.inr ⟨v, rfl, hr⟩)))
  case tick ht => exact .inl (.of_tick ht)
  case reset => exact .inr (.inr (.inr (.inl rfl)))
  case callback c _ => exact .inl (.of_runCallback c s)

/-- Settles O46: of what an action does to the latches, only `RD STS` and a reset take `irq_done` down. -/
theorem completionLatchClearedOnly : Obligations.CompletionLatchClearedOnly := by
  intro s t hstep up down
  obtain ⟨q, -, ho⟩ := step_outcome hstep
  have fallen : t.irqDone ≠ true := by rw [down]; decide
  obtain kept | ⟨status, -⟩ | ⟨-, same⟩ | resets := ho.latches
  · exact absurd (kept.done up) fallen
  · exact .inl status
  · exact absurd (same.trans up) fallen
  · exact .inr resets

/-- Settles O47: of what an action does to the latches, only an access to `dat` and a reset take `irq_drq` down. -/
theorem dataRequestClearedOnly : Obligations.DataRequestClearedOnly := by
  intro s t hstep up down
  obtain ⟨q, -, ho⟩ := step_outcome hstep
  have fallen : t.irqDrq ≠ true := by rw [down]; decide
  obtain kept | ⟨-, same⟩ | ⟨data, -⟩ | resets := ho.latches
  · exact absurd (kept.drq up) fallen
  · exact absurd (same.trans up) fallen
  · exact or_assoc.1 (.inl data)
  · exact .inr (.inr resets)

/-! ### What enters busy (R225) -/

section
variable {s t : State} (idle : s.busy = false)
include idle

/-- A Tick starts nothing: its parts keep BUSY, or end an operation (R158, R190, R223). -/
theorem tick_stays_idle (ht : tick s = .next t) : t.busy = false := by
  refine tick_induct (P := fun u => u.busy = false) ht idle ?poll ?nf ?seek ?motor
  case poll =>
    intro d u v hu hv
    obtain ⟨_, rfl⟩ | ⟨ses, _, ho⟩ := backendPoll_cases hv
    · exact hu
    · obtain ⟨_, _, _, _, ⟨_, same⟩ | ⟨_, _, ended⟩⟩ := ho.session
      · exact same.trans hu
      · exact ended
  case nf =>
    intro u hu
    obtain ⟨_, e⟩ | ⟨n, _, e⟩ := nfStep_cases u <;> rw [e]
    · exact busy_cbNotFound _
    · exact hu
  case seek =>
    intro u hu
    obtain ⟨_, e⟩ | ⟨n, _, e⟩ := seekStep_cases u <;> rw [e]
    · exact busy_cbFinished _
    · exact hu
  case motor => exact fun u hu => (busy_motorStep u).trans hu

/-- A callback starts nothing (R200 to R206). -/
theorem runCallback_stays_idle (c : Callback) : (runCallback c s).busy = false := by
  cases c with
  | dataReady b => exact (busy_cbDataReady b s).trans idle
  | finished => exact busy_cbFinished s
  | notFound => exact busy_cbNotFound s
  | dataCrcError => exact busy_cbDataCrcError s
  | headerCrcError => exact busy_cbHeaderCrcError s
  | writeProtect => exact busy_cbWriteProtect s
  | pull last =>
    rw [runCallback_pull]
    split_ifs
    · exact idle
    · exact (busy_raiseDrq _).trans idle
    · exact idle

/-- A write of the control register starts nothing (R139, R241). -/
theorem writeControl_stays_idle (v : Byte) : (writeControl v s).busy = false := by
  cases hr : resetOf profile v with
  | false => rw [writeControl_of_no_reset hr]; exact idle
  | true => rw [writeControl_of_reset hr]; rfl

/-- Of the commands, Force Interrupt and INVALID start nothing (R120, R122, R225). -/
theorem exec_stays_idle {i : Instr} (he : exec i s = .next t) :
    t.busy = false ∨ opOf (encode i) ≠ 0xD#4 ∧ opOf (encode i) ≠ 0xE#4 := by
  cases exec_outcome he
  case ignored => exact .inl idle
  case positioned low =>
    exact .inr ⟨fun e => absurd low (by rw [e]; decide), fun e => absurd low (by rw [e]; decide)⟩
  case started notForce notInvalid | declined notForce notInvalid | writeStarted notForce notInvalid |
      writeDeclined notForce notInvalid =>
    exact .inr ⟨notForce, notInvalid⟩
  case forced => exact .inl (busy_forceIntRule _)
  case invalid => exact .inl ((busy_eq _).trans (by simp [complete]))

end

/-- Every action leaves an idle controller idle, but a written command of the positioning or transfer classes (R225). -/
theorem ActionOutcome.stays_idle {a : Action} {s t : State} (ho : ActionOutcome s a t) (idle : s.busy = false) :
    t.busy = false ∨ ∃ v, a = .write (.chip 0) v ∧ opOf v ≠ 0xD#4 ∧ opOf v ≠ 0xE#4 := by
  cases ho
  case readSts | readTrk | readSec | readCtl | writeTrk | writeSec | bind | close | wprot => exact .inl idle
  case readDat | writeDat => exact .inl ((busy_ackDrq _).trans idle)
  case command v he =>
    have classes := exec_stays_idle idle he
    rw [encode_decode] at classes
    exact classes.imp_right fun other => ⟨v, rfl, other⟩
  case writeCtl v => exact .inl (writeControl_stays_idle idle v)
  case tick ht => exact .inl (tick_stays_idle idle ht)
  case reset => exact .inl rfl
  case callback c _ => exact .inl (runCallback_stays_idle idle c)

/-- Settles O48: a step that enters busy does not leave the controller idle, so it is such a command. -/
theorem busyEnteredOnlyByCommand : Obligations.BusyEnteredOnlyByCommand := by
  intro s t hstep idle entered
  obtain ⟨q, -, ho⟩ := step_outcome hstep
  obtain stays | command := ho.stays_idle idle
  · exact absurd entered (by rw [stays]; decide)
  · exact command

end Sys2Proof.Machine

/-!
PROOFS of the statements about reset and hazards (70_reset_and_hazards.md): the invariants at startup (R240), and a command
written while busy (R250).
-/

namespace Sys2Proof.Machine

/-! ### The state after reset (R240) -/

/-- Both drives are empty at startup (R25, R240). -/
theorem reset_bound (d : DriveIx) : (State.reset.drive d).bound = .empty := by
  cases d <;> rfl

/-- With no flag raised, no countdown running and no image bound, nothing can be out of range. -/
theorem reset_sound : State.reset.Sound where
  unused _ _ := BitVec.getLsbD_zero
  spindown := Nat.zero_le _
  nfCount := Nat.zero_le _
  sessions d _ image := absurd ((reset_bound d).symm.trans image) nofun

/-- Settles O53: at startup the controller is idle with nothing in flight, both drives are empty and the motor is off. -/
theorem invariantsAtReset : Obligations.InvariantsAtReset := by
  have oneInFlight : State.reset.OneInFlight := .of_idle rfl rfl
  have noAlternate : State.reset.NoAlternate := fun d => by rw [reset_bound d]; nofun
  have motorTimed : State.reset.MotorTimed := .of_off rfl BitVec.getLsbD_zero
  exact ⟨reset_sound, oneInFlight, noAlternate, motorTimed⟩

/-! ### Commands written while busy (R250) -/

/-- Settles O7: the byte of such a command does not have Force Interrupt's opcode, so acceptance ignores it. -/
theorem busyIgnoresCommand : Obligations.BusyIgnoresCommand := by
  intro i s busy notForce
  calc exec i s
      = acceptCommand (encode i) (classRule i) s := exec_eq_accept i s
    _ = .next s := acceptCommand_busy busy (opOf_ne_forceInt notForce)

end Sys2Proof.Machine

/-!
PROOFS of the remaining statements: STEP (R86), what a drive bound to the alternate backend is refused (R151, R153 to R156) and
what its callbacks leave (R203, R204), the environment's moves (R160 to R163), the machine reset and startup (R240), the read of
the status (R131) and of CONTROL (R140), and the queue of actions (logs 7 and 8).
-/

namespace Sys2Proof.Machine

/-! ### STEP (R86) -/

/-- Settles O10: STEP seeks the next track in the stored direction, modulo 256 either way, and keeps the direction. -/
theorem stepResult : Obligations.StepResult := by
  intro low s hb ha
  obtain ⟨t, next, done, dir, frame⟩ := exec_positioning (i := .step low) (dir := s.stepdir) nofun rfl hb ha
  refine ⟨t, stepTrack s.stepdir s.trk, next, done, fun inward => ?_, fun outward => ?_, dir, frame⟩
  · rw [inward]; exact stepTrack_inward s.trk
  · rw [outward]; exact stepTrack_outward s.trk

/-! ### A drive bound to the alternate backend (R151, R153 to R156) -/

/-- The rule of a write stops at the refusal of its dispatch call (R102, R154). -/
theorem writeSectorRule_alt {s : State} (v : Byte) (ha : (s.drive s.drv).bound = .alt) :
    writeSectorRule v s = .refused .altBackend := by
  rw [writeSectorRule, startTransfer_alt ha]
  rfl

/-- Every class rule that makes a seek or a dispatch call is refused: all but those of FORCE_INT and INVALID (R151, R153 to
R156). -/
theorem classRule_alt {i : Instr} {s : State} (notForce : ∀ flags, i ≠ .forceInt flags)
    (notInvalid : ∀ flags, i ≠ .invalid flags) (ha : (s.drive s.drv).bound = .alt) :
    classRule i s = .refused .altBackend := by
  cases i with
  | restore | seek | step => exact positionTo_alt ha
  | stepIn => exact positionTo_alt (s := { s with stepdir := .inward }) ha
  | stepOut => exact positionTo_alt (s := { s with stepdir := .outward }) ha
  | readSector | readAddress | writeTrack => exact startTransfer_alt ha
  | writeSectorA | writeSectorB => exact writeSectorRule_alt _ ha
  | forceInt flags => exact absurd rfl (notForce flags)
  | invalid flags => exact absurd rfl (notInvalid flags)

/-- Settles O58: an idle controller accepts the command, which moves no drive, and its class rule is refused; so is the
binding. -/
theorem alternateDriveRefused : Obligations.AlternateDriveRefused := by
  intro s
  refine ⟨fun hb ha i notForce notInvalid => ?command, fun _ => rfl⟩
  case command =>
    calc exec i s
        = classRule i (accepted i s) := exec_idle hb notForce
      _ = .refused .altBackend := classRule_alt notForce notInvalid ha

/-- A callback of a drive bound to the alternate backend is performed (log 14). -/
theorem alternateCallback_alt {d : DriveIx} {s : State} (ha : (s.drive d).bound = .alt) (c : Callback) :
    alternateCallback d c s = .next (runCallback c s) := by
  simp only [alternateCallback, ha]

/-- Settles O40: each callback ends the operation with its error pattern, which has no MOTOR to clear, and the motor off. -/
theorem crcCallbacks : Obligations.CrcCallbacks := by
  intro d s ha
  exact ⟨⟨_, alternateCallback_alt ha .dataCrcError, clearMotor_patDataCrc, rfl, rfl, rfl, rfl⟩,
    ⟨_, alternateCallback_alt ha .headerCrcError, clearMotor_patHeadCrc, rfl, rfl, rfl, rfl⟩⟩

/-! ### The environment (R160 to R163) -/

section
variable {d : DriveIx} {g : Geometry} {bytes : List Byte} {ro : Bool} {s : State}

/-- BIND with an operation in flight (R162). -/
theorem bindImage_inFlight (running : inFlight s d = true) : bindImage d g bytes ro s = .refused .operationInFlight :=
  if_pos running

/-- BIND of a geometry that breaks its constraints (R46). -/
theorem bindImage_badGeometry (still : inFlight s d = false) (bad : g.wf = false) :
    bindImage d g bytes ro s = .refused .badGeometry := by
  simp [bindImage, still, bad]

/-- BIND of an image whose length is not the geometry's (R47). -/
theorem bindImage_imageLength (still : inFlight s d = false) (good : g.wf = true)
    (unfit : bytes.length ≠ g.imageLength) : bindImage d g bytes ro s = .refused .imageLength := by
  simp [bindImage, still, good, Geometry.fits, unfit]

/-- BIND that is accepted puts a fresh session into the drive (R160). -/
theorem bindImage_next (still : inFlight s d = false) (good : g.wf = true) (fit : bytes.length = g.imageLength) :
    bindImage d g bytes ro s = .next (rebind d (.image (newSession g bytes ro)) s) := by
  simp [bindImage, still, good, Geometry.fits, fit]

/-- A fresh session holds the bytes it was given, and none past them (R27, R48, R160). -/
theorem imgRead_newSession (fit : bytes.length = g.imageLength) (ro : Bool) (a : Nat) :
    imgRead (newSession g bytes ro) a = bytes[a]? := by
  have length : (newSession g bytes ro).size = bytes.length := fit.symm
  have held : Memory.read (Memory.ofBytes 0 bytes) a = bytes.getD a 0#8 := by
    simpa using read_ofBytes bytes 0 a
  by_cases inside : a < bytes.length
  · calc imgRead (newSession g bytes ro) a
        = some (Memory.read (Memory.ofBytes 0 bytes) a) := imgRead_inside (by rwa [length])
      _ = bytes[a]? := by simp [held, inside]
  · rw [imgRead, length, if_neg inside, List.getElem?_eq_none (Nat.le_of_not_lt inside)]

end

/-- Settles O41: the three refusals come in this order, and what none of them stops binds a fresh session. -/
theorem bindResult : Obligations.BindResult := by
  intro d g bytes ro s
  refine ⟨bindImage_inFlight, bindImage_badGeometry, bindImage_imageLength, fun still good fit => ?bound⟩
  case bound =>
    have left : ((rebind d (.image (newSession g bytes ro)) s).drive d).bound = .image (newSession g bytes ro) := by
      simp [rebind_bound]
    have bytesHeld (a : Nat) := (imageByte_image left a).trans (imgRead_newSession fit ro a)
    exact ⟨_, newSession g bytes ro, bindImage_next still good fit, left, rfl, rfl, rfl, rfl, rfl, rfl, rfl, rfl, rfl, rfl,
      rfl, bytesHeld, rfl⟩

/-- CLOSE with an operation in flight (R162). -/
theorem closeImage_inFlight {d : DriveIx} {s : State} (running : inFlight s d = true) :
    closeImage d s = .refused .operationInFlight := if_pos running

/-- CLOSE with nothing in flight has nothing to abort (R161, R185, R187). -/
theorem closeImage_next {d : DriveIx} {s : State} (still : inFlight s d = false) :
    closeImage d s = .next (rebind d .empty s) := by
  have nothing : abort d s = s := (abortOnlyIdles d s).2 still
  simp [closeImage, still, nothing]

/-- Settles O42: CLOSE binds nothing in the place of what is there, and WPROT is one update of the flag. -/
theorem closeAndProtect : Obligations.CloseAndProtect := fun _ _ _ => ⟨closeImage_next, closeImage_inFlight, rfl⟩

/-! ### The machine reset and startup (R240) -/

/-- The machine reset stops the machine of either drive, and does no more to it (R159, R240). -/
@[simp] theorem machineReset_drive (s : State) (d : DriveIx) :
    (machineReset s).drive d = { s.drive d with bound := (s.drive d).bound.stop } := abortAll_drive s d

/-- Settles O43: the registers are their reset values, and the drives are told by their stopped bindings. -/
theorem machineResetResult : Obligations.MachineResetResult := by
  intro s
  refine ⟨machineReset s, rfl, rfl, rfl, rfl, rfl, rfl, rfl, rfl, rfl, rfl, rfl, rfl, rfl, rfl, rfl, rfl, rfl, rfl,
    fun d => ?drives, .abortAll s⟩
  case drives =>
    have stopped := machineReset_drive s d
    exact ⟨by rw [stopped], by rw [stopped], Binding.stop_kinds (congrArg Drive.bound stopped)⟩

/-- Either drive is as at emulator startup (R22, R240). -/
theorem reset_drive (d : DriveIx) : State.reset.drive d = Drive.startup := by
  cases d <;> rfl

/-- Settles O44: every element of the fixed state is written out there, and both drives are at startup. -/
theorem startupValues : Obligations.StartupValues :=
  ⟨rfl, rfl, rfl, rfl, rfl, rfl, rfl, rfl, rfl, rfl, rfl, rfl, rfl, rfl, rfl, rfl, rfl, reset_drive, rfl, rfl⟩

/-! ### The reads of the status and of CONTROL (R131, R140) -/

/-- A bit carries a flag exactly when it is one of the seven (R64). -/
theorem isFlag_iff {n : Nat} :
    isFlag n = true ↔ n ∈ [stBusy, stDrq, stTrack0, stCrc, stRnf, stWprot, stMotor] := List.contains_iff_mem

/-- A bit that carries a flag is a bit of the byte (R64, D1). -/
theorem isFlag_lt {n : Nat} (h : isFlag n = true) : n < 8 := by
  have places := (Bool.and_eq_true_iff.1 isLayout_statusLayout).1
  exact of_decide_eq_true (List.all_eq_true.1 places n (isFlag_iff.1 h))

/-- Settles O20: the read returns the whole of `sts`, whose bit without a flag the invariant keeps clear; the layout is one of
D1's. -/
theorem statusReadAcknowledges : Obligations.StatusReadAcknowledges := by
  refine ⟨fun s => ⟨rfl, fun sound n unflagged => ?unused⟩, flags_nodup, fun _ => isFlag_iff, fun _ => isFlag_lt⟩
  case unused => exact ⟨{ s with hostRead := s.sts, irqDone := false }, rfl, sound.unused n unflagged⟩

/-- Settles O26: the byte is the free value that the counter names, and the counter moves on. -/
theorem controlReadHasNoSideEffect : Obligations.ControlReadHasNoSideEffect := fun s => ⟨freeByte s.freeCount, rfl⟩

/-! ### The queue of actions (logs 7 and 8) -/

/-- With nothing queued the next action is a Tick (R230, log 8). -/
theorem nextAction_of_empty {s : State} (h : s.inbox = []) : nextAction s = (.tick, s) := by
  simp only [nextAction, h]

/-- Settles O6: a step performs the next action, which the queue decides. -/
theorem stepPerformsOneAction : Obligations.StepPerformsOneAction := by
  intro s
  refine ⟨fun a rest queued => ?first, fun empty => ?tick⟩
  case first => rw [step, nextAction_of_inbox queued]
  case tick => rw [step, nextAction_of_empty empty]

end Sys2Proof.Machine
